-- ==== Sys2Proof/Word.lean ====
section
/-! DEFINITION. The two fixed word widths that cross a station port: a byte, and the two-byte quantity that is sent
most significant byte first (0.6.3). Everything the part counts, measures or times is a `Nat` or an `Int`; only what
the manual treats as bits on a wire or as a bit field is a bit vector. -/

namespace Sys2Proof

/-- One byte clocked in or out of a station port. -/
abbrev Byte := BitVec 8

/-- A two-byte quantity of a frame or of the sensor link (0.6.3: most significant byte first on the wire). -/
abbrev Word := BitVec 16

end Sys2Proof
end

