-- ==== Sys2Proof/Config.lean ====
section
/-! DEFINITION. What an implementation fixes and the manual leaves open. The part's own sixteen configuration items are
machine state (SET_CONFIG writes them), and stand in `Machine/State.lean`. -/

namespace Sys2Proof

/-- FREE VALUE (log entry 5). The byte a port shifts out when its SEL line is low and no frame is in progress, which
happens only after a power-on reset that found SEL low: R182 says the port then waits for the next fall of SEL and
11.9 says that data out is driven while SEL is low, but no rule says which byte is driven. It has no body; it is
applied to `State.strayCount`, so that two such bytes need not be equal. -/
opaque Config.strayByte : Nat → Byte

end Sys2Proof
end

