-- ==== Sys2Proof/Syntax.lean ====
section
/-! DEFINITION. The events of the part: one constructor of `Instr` for each row of spec/opcode_table.json, with the
row's operands, and the names that the operands use (ports, banks, channels, slots, drawers, timers). -/

namespace Sys2Proof

/-- The four station ports (R175): P planning, E frame, W washer, D dryer and finisher. -/
inductive Port where
  | P | E | W | D
  deriving DecidableEq, Repr

/-- The place of a port in the arbiter's cycle P, E, W, D (R19). -/
def Port.index : Port → Fin 4
  | .P => 0 | .E => 1 | .W => 2 | .D => 3

/-- A plate slot, 0 to 63 (R1). -/
abbrev Slot := Fin 64

/-- A drying drawer, 0 to 3 (R143). -/
abbrev DrawerIx := Fin 4

/-- The four lamp banks, in the order of their codes 0 to 3 (R94). -/
inductive Bank where
  | back | face | detack | post
  deriving DecidableEq, Repr

/-- The code of a bank (R94). -/
def Bank.index : Bank → Fin 4
  | .back => 0 | .face => 1 | .detack => 2 | .post => 3

/-- The six light channels, in the order of their numbers 0 to 5 (R101). -/
inductive Chan where
  | backA | backB | faceA | faceB | detack | post
  deriving DecidableEq, Repr

/-- The number of a channel (R101). -/
def Chan.index : Chan → Fin 6
  | .backA => 0 | .backB => 1 | .faceA => 2 | .faceB => 3 | .detack => 4 | .post => 5

/-- A timer that counts whole seconds: a bank's warm timer (R95), a drawer's dry timer (R144), or the overdue timer of
a plate in the transit list (R125). -/
inductive Timer where
  | warm (bank : Bank)
  | drawer (drawer : DrawerIx)
  | overdue (slot : Slot)
  deriving DecidableEq, Repr

/-- The thirteen parameter bytes of STAGE_LOT as sent (4.2.2). -/
structure LotImage where
  typeIx : Byte
  lot : Word
  copiesLess1 : Byte
  rush : Byte
  width : Word
  length : Word
  relief : Word
  nonimage : Byte
  trim : Byte
  deriving DecidableEq, Repr

/-- One point of a floor curve as sent: a back dose and the floor it produces (2.4.1). -/
structure PointImage where
  dose : Word
  floor : Word
  deriving DecidableEq, Repr

/-- The forty-nine bytes of a type record as sent in a WRITE_TYPE frame (2.4.1). -/
structure TypeImage where
  valid : Byte
  thickness : Word
  curve0 : PointImage
  curve1 : PointImage
  curve2 : PointImage
  curve3 : PointImage
  curve4 : PointImage
  curve5 : PointImage
  faceDose : Word
  backMaxS : Word
  faceMaxS : Word
  rateFresh : Word
  sens : Byte
  density : Word
  dryBase : Word
  drySlope : Byte
  detackDose : Word
  postDose : Word
  detackMaxS : Word
  postMaxS : Word
  deriving DecidableEq, Repr

/-- The commands and events of the part, one constructor for each row of spec/opcode_table.json.

* The rows of the pins (`selFall`, `byteArrival`, `selRise`, `powerOnReset`, `rstRise`) are what a master does.
* The rows that end the assembly of a command (`arbiterWait`, `unknownCommand`, `wrongPortCommand` and the five commands
  exempt from the arbiter) are the arrival of the LAST byte of that command's frame (R18, R177, R179). `byteArrival` of
  the same byte does the same thing; the rows name the outcome.
* A command that waits at the arbiter has its row when the arbiter GRANTS it (R19): the operands are those that its
  frame carried.
* The rest are internal completions (R21). -/
inductive Instr where
  /-- RST falls (R182). -/
  | powerOnReset
  /-- SEL of a port falls (R176). -/
  | selFall (port : Port)
  /-- SEL of a port rises (R178). -/
  | selRise (port : Port)
  /-- The last byte of an arbiter command's frame arrives, and the command begins to wait (R18). -/
  | arbiterWait (port : Port) (code : Byte) (params : List Byte)
  /-- A code byte that names no command arrives (R179). -/
  | unknownCommand (port : Port) (code : Byte)
  /-- The code byte of READ_STATUS arrives (R181). -/
  | readStatus (port : Port)
  /-- The code byte of EVT_FREEZE arrives (R169). -/
  | evtFreeze (port : Port)
  /-- The code byte of EVT_TAKE arrives (R170). -/
  | evtTake (port : Port)
  /-- The code byte of EVT_DONE arrives (R171). -/
  | evtDone (port : Port)
  /-- The code byte of PORT_RESET arrives (R183). -/
  | portReset (port : Port)
  /-- READ_PLATE of a port is granted (R24). -/
  | readPlate (port : Port) (slot : Byte)
  /-- READ_LINE of a port is granted (R184). -/
  | readLine (port : Port)
  /-- WRITE_TYPE is granted (R31). -/
  | writeType (typeIx : Byte) (image : TypeImage)
  /-- READ_TYPE is granted (R36). -/
  | readType (typeIx : Byte)
  /-- STAGE_LOT is granted (R67 to R70). -/
  | stageLot (lot : LotImage)
  /-- HOLD is granted (R8, R9). -/
  | hold (slot : Byte)
  /-- RELEASE is granted (R13, R14). -/
  | release (slot : Byte)
  /-- SCRAP is granted (R15). -/
  | scrap (slot : Byte)
  /-- PURGE is granted (R16). -/
  | purge (slot : Byte)
  /-- SET_CONFIG is granted (R185). -/
  | setConfig (item : Byte) (value : Word)
  /-- READ_CONFIG is granted (R186). -/
  | readConfig (item : Byte)
  /-- SET_LOADING is granted (R137). -/
  | setLoading (loading : Word)
  /-- LOAD_REQ is granted (R72 to R76); mode 0 SINGLE, 1 PAIR. -/
  | loadReq (mode : Byte)
  /-- BANK_ON of port E or D is granted (R95). -/
  | bankOn (port : Port) (bank : Byte)
  /-- BANK_OFF of port E or D is granted (R97). -/
  | bankOff (port : Port) (bank : Byte)
  /-- START_BACK is granted (R80, R81). -/
  | startBack
  /-- START_FACE is granted (R84, R85). -/
  | startFace
  /-- UNLOAD is granted (R87, R88). -/
  | unload
  /-- FRAME_ABORT is granted (R89 to R91). -/
  | frameAbort
  /-- WASH_CLAIM is granted (R129, R130). -/
  | washClaim (slot : Byte)
  /-- WASH_DONE is granted (R131, R132). -/
  | washDone (slot : Byte)
  /-- WASH_FAULT is granted (R133). -/
  | washFault (slot : Byte)
  /-- REPLENISH is granted (R135). -/
  | replenish (litres : Word)
  /-- SOLVENT_CHANGE is granted (R136). -/
  | solventChange
  /-- DRAWER_LOAD is granted (R145, R146). -/
  | drawerLoad (drawer : Byte) (slot : Byte)
  /-- DRAWER_OPEN is granted (R147). -/
  | drawerOpen (drawer : Byte)
  /-- DRAWER_CLOSE is granted (R148). -/
  | drawerClose (drawer : Byte)
  /-- DRAWER_UNLOAD is granted (R150). -/
  | drawerUnload (drawer : Byte)
  /-- FINISH_LOAD is granted (R156). -/
  | finishLoad (slot : Byte)
  /-- FINISH_START is granted (R157). -/
  | finishStart
  /-- FINISH_ABORT is granted (R160, R161). -/
  | finishAbort
  /-- FINISH_UNLOAD is granted (R159). -/
  | finishUnload
  /-- The decrement that brings a warm timer to 0 (R96). -/
  | warmTimerExpiry (bank : Bank)
  /-- The decrement that brings a drawer's timer to 0 (R149). -/
  | dryTimerExpiry (drawer : DrawerIx)
  /-- The decrement that brings a plate's overdue timer to 0 (R125). -/
  | overdueTimerExpiry (slot : Slot)
  /-- The interval of a RUNNING channel (of a pair, of both its channels) ends (R106). -/
  | sampleDue (chan : Chan)
  /-- The idle link takes the lowest-numbered request of the due list (R107). -/
  | sensorReadStart
  /-- The transaction on the link ends: with a reading, or with no answer (R108). -/
  | sensorReadComplete (answer : Option Word)
  /-- The last byte of a command that the port does not accept arrives (R179). -/
  | wrongPortCommand (port : Port) (code : Byte) (params : List Byte)
  /-- A byte's eighth bit is clocked in on a port (R176). -/
  | byteArrival (port : Port) (byte : Byte)
  /-- A second passes at a running timer that does not run out with it (R144). -/
  | timerDecrement (timer : Timer)
  /-- RST rises (R182). -/
  | rstRise
  deriving DecidableEq, Repr

end Sys2Proof
end

