-- ==== Sys2Proof/Decode.lean ====
section
/-! DEFINITION. The command codes of the ports (11.7.1) and the byte strings of the commands: `frameBytes` writes the
code and parameter bytes of a command, `decodeFrame` reads them back. The rows of spec/opcode_table.json give no bits
of their own, so `decodeTableWord` names no row. -/

namespace Sys2Proof

/-- Two bytes of a frame, most significant first (0.6.3). -/
def wordBytes (w : Word) : List Byte := [w.extractLsb' 8 8, w.setWidth 8]

/-- The word that two bytes carry, most significant first (0.6.3). -/
def wordOf (hi lo : Byte) : Word := hi ++ lo

/-- The byte at an offset of a parameter string. -/
def byteAt (bs : List Byte) (n : Nat) : Byte := bs.getD n 0

/-- The two-byte field at an offset of a parameter string. -/
def wordAt (bs : List Byte) (n : Nat) : Word := wordOf (byteAt bs n) (byteAt bs (n + 1))

/-- A row of the command table of 11.7.1. -/
structure CommandRow where
  code : Byte
  ports : List Port
  params : Nat
  replyData : Nat
  arbiter : Bool
  deriving DecidableEq, Repr

/-- The ports of a command marked "any" in 11.7.1. -/
def anyPort : List Port := [.P, .E, .W, .D]

/-- The command table of 11.7.1, in its order: code, ports, parameter bytes, reply data bytes, arbiter. -/
def commandTable : List CommandRow :=
  [ ⟨0x01, anyPort, 0, 6, false⟩    -- READ_STATUS
  , ⟨0x02, anyPort, 0, 3, false⟩    -- EVT_FREEZE
  , ⟨0x03, anyPort, 0, 3, false⟩    -- EVT_TAKE
  , ⟨0x04, anyPort, 0, 1, false⟩    -- EVT_DONE
  , ⟨0x05, anyPort, 0, 0, false⟩    -- PORT_RESET
  , ⟨0x06, anyPort, 1, 70, true⟩    -- READ_PLATE
  , ⟨0x07, anyPort, 0, 83, true⟩    -- READ_LINE
  , ⟨0x10, [.P], 50, 0, true⟩       -- WRITE_TYPE
  , ⟨0x11, [.P], 1, 49, true⟩       -- READ_TYPE
  , ⟨0x12, [.P], 13, 2, true⟩       -- STAGE_LOT
  , ⟨0x13, [.P], 1, 0, true⟩        -- HOLD
  , ⟨0x14, [.P], 1, 0, true⟩        -- RELEASE
  , ⟨0x15, [.P], 1, 0, true⟩        -- SCRAP
  , ⟨0x16, [.P], 1, 0, true⟩        -- PURGE
  , ⟨0x17, [.P], 3, 2, true⟩        -- SET_CONFIG
  , ⟨0x18, [.P], 1, 2, true⟩        -- READ_CONFIG
  , ⟨0x19, [.P], 2, 0, true⟩        -- SET_LOADING
  , ⟨0x20, [.E], 1, 3, true⟩        -- LOAD_REQ
  , ⟨0x21, [.E, .D], 1, 0, true⟩    -- BANK_ON
  , ⟨0x22, [.E, .D], 1, 0, true⟩    -- BANK_OFF
  , ⟨0x23, [.E], 0, 0, true⟩        -- START_BACK
  , ⟨0x24, [.E], 0, 0, true⟩        -- START_FACE
  , ⟨0x25, [.E], 0, 2, true⟩        -- UNLOAD
  , ⟨0x26, [.E], 0, 0, true⟩        -- FRAME_ABORT
  , ⟨0x30, [.W], 1, 3, true⟩        -- WASH_CLAIM
  , ⟨0x31, [.W], 1, 1, true⟩        -- WASH_DONE
  , ⟨0x32, [.W], 1, 0, true⟩        -- WASH_FAULT
  , ⟨0x33, [.W], 2, 4, true⟩        -- REPLENISH
  , ⟨0x34, [.W], 0, 0, true⟩        -- SOLVENT_CHANGE
  , ⟨0x40, [.D], 2, 3, true⟩        -- DRAWER_LOAD
  , ⟨0x41, [.D], 1, 0, true⟩        -- DRAWER_OPEN
  , ⟨0x42, [.D], 1, 0, true⟩        -- DRAWER_CLOSE
  , ⟨0x43, [.D], 1, 2, true⟩        -- DRAWER_UNLOAD
  , ⟨0x44, [.D], 1, 2, true⟩        -- FINISH_LOAD
  , ⟨0x46, [.D], 0, 0, true⟩        -- FINISH_START
  , ⟨0x47, [.D], 0, 0, true⟩        -- FINISH_ABORT
  , ⟨0x48, [.D], 0, 1, true⟩ ]      -- FINISH_UNLOAD

/-- The row a code byte names; none for every code not in the table, 0x45 among them (11.7.1). -/
def commandRow (code : Byte) : Option CommandRow := commandTable.find? (fun r => r.code == code)

/-- A command that a port accepts (R175). -/
def accepted (port : Port) (row : CommandRow) : Bool := row.ports.contains port

/-- A floor-curve point as the four bytes of 2.4.1. -/
def pointBytes (pt : PointImage) : List Byte := wordBytes pt.dose ++ wordBytes pt.floor

/-- The point whose four bytes begin at an offset. -/
def pointAt (bs : List Byte) (n : Nat) : PointImage := ⟨wordAt bs n, wordAt bs (n + 2)⟩

/-- The forty-nine bytes of a type record (2.4.1). -/
def typeBytes (t : TypeImage) : List Byte :=
  [t.valid] ++ wordBytes t.thickness
    ++ pointBytes t.curve0 ++ pointBytes t.curve1 ++ pointBytes t.curve2
    ++ pointBytes t.curve3 ++ pointBytes t.curve4 ++ pointBytes t.curve5
    ++ wordBytes t.faceDose ++ wordBytes t.backMaxS ++ wordBytes t.faceMaxS ++ wordBytes t.rateFresh
    ++ [t.sens] ++ wordBytes t.density ++ wordBytes t.dryBase ++ [t.drySlope]
    ++ wordBytes t.detackDose ++ wordBytes t.postDose ++ wordBytes t.detackMaxS ++ wordBytes t.postMaxS

/-- The type record that forty-nine bytes carry, field by field at the offsets of 2.4.1. -/
def typeOfBytes (bs : List Byte) : TypeImage where
  valid := byteAt bs 0
  thickness := wordAt bs 1
  curve0 := pointAt bs 3
  curve1 := pointAt bs 7
  curve2 := pointAt bs 11
  curve3 := pointAt bs 15
  curve4 := pointAt bs 19
  curve5 := pointAt bs 23
  faceDose := wordAt bs 27
  backMaxS := wordAt bs 29
  faceMaxS := wordAt bs 31
  rateFresh := wordAt bs 33
  sens := byteAt bs 35
  density := wordAt bs 36
  dryBase := wordAt bs 38
  drySlope := byteAt bs 40
  detackDose := wordAt bs 41
  postDose := wordAt bs 43
  detackMaxS := wordAt bs 45
  postMaxS := wordAt bs 47

/-- The thirteen parameter bytes of STAGE_LOT (4.2.2). -/
def lotBytes (l : LotImage) : List Byte :=
  [l.typeIx] ++ wordBytes l.lot ++ [l.copiesLess1, l.rush] ++ wordBytes l.width ++ wordBytes l.length
    ++ wordBytes l.relief ++ [l.nonimage, l.trim]

/-- The lot that thirteen bytes carry, field by field at the offsets of 4.2.2. -/
def lotOfBytes (bs : List Byte) : LotImage where
  typeIx := byteAt bs 0
  lot := wordAt bs 1
  copiesLess1 := byteAt bs 3
  rush := byteAt bs 4
  width := wordAt bs 5
  length := wordAt bs 7
  relief := wordAt bs 9
  nonimage := byteAt bs 11
  trim := byteAt bs 12

/-- The code and parameter bytes that the frame of a command row carries; empty for a row that is not a command. -/
def frameBytes : Instr → List Byte
  | .readStatus _ => [0x01]
  | .evtFreeze _ => [0x02]
  | .evtTake _ => [0x03]
  | .evtDone _ => [0x04]
  | .portReset _ => [0x05]
  | .readPlate _ slot => [0x06, slot]
  | .readLine _ => [0x07]
  | .writeType ix image => 0x10 :: ix :: typeBytes image
  | .readType ix => [0x11, ix]
  | .stageLot lot => 0x12 :: lotBytes lot
  | .hold slot => [0x13, slot]
  | .release slot => [0x14, slot]
  | .scrap slot => [0x15, slot]
  | .purge slot => [0x16, slot]
  | .setConfig item value => 0x17 :: item :: wordBytes value
  | .readConfig item => [0x18, item]
  | .setLoading loading => 0x19 :: wordBytes loading
  | .loadReq mode => [0x20, mode]
  | .bankOn _ bank => [0x21, bank]
  | .bankOff _ bank => [0x22, bank]
  | .startBack => [0x23]
  | .startFace => [0x24]
  | .unload => [0x25]
  | .frameAbort => [0x26]
  | .washClaim slot => [0x30, slot]
  | .washDone slot => [0x31, slot]
  | .washFault slot => [0x32, slot]
  | .replenish litres => 0x33 :: wordBytes litres
  | .solventChange => [0x34]
  | .drawerLoad drawer slot => [0x40, drawer, slot]
  | .drawerOpen drawer => [0x41, drawer]
  | .drawerClose drawer => [0x42, drawer]
  | .drawerUnload drawer => [0x43, drawer]
  | .finishLoad slot => [0x44, slot]
  | .finishStart => [0x46]
  | .finishAbort => [0x47]
  | .finishUnload => [0x48]
  | .arbiterWait _ code params => code :: params
  | .unknownCommand _ code => [code]
  | .wrongPortCommand _ code params => code :: params
  | .powerOnReset => []
  | .selFall _ => []
  | .selRise _ => []
  | .warmTimerExpiry _ => []
  | .dryTimerExpiry _ => []
  | .overdueTimerExpiry _ => []
  | .sampleDue _ => []
  | .sensorReadStart => []
  | .sensorReadComplete _ => []
  | .byteArrival _ _ => []
  | .timerDecrement _ => []
  | .rstRise => []

/-- The port whose frame carries a command row (11.7.1); none for a row that no frame carries. -/
def commandPort : Instr → Option Port
  | .readStatus port => some port
  | .evtFreeze port => some port
  | .evtTake port => some port
  | .evtDone port => some port
  | .portReset port => some port
  | .readPlate port _ => some port
  | .readLine port => some port
  | .writeType _ _ => some .P
  | .readType _ => some .P
  | .stageLot _ => some .P
  | .hold _ => some .P
  | .release _ => some .P
  | .scrap _ => some .P
  | .purge _ => some .P
  | .setConfig _ _ => some .P
  | .readConfig _ => some .P
  | .setLoading _ => some .P
  | .loadReq _ => some .E
  | .bankOn port _ => some port
  | .bankOff port _ => some port
  | .startBack => some .E
  | .startFace => some .E
  | .unload => some .E
  | .frameAbort => some .E
  | .washClaim _ => some .W
  | .washDone _ => some .W
  | .washFault _ => some .W
  | .replenish _ => some .W
  | .solventChange => some .W
  | .drawerLoad _ _ => some .D
  | .drawerOpen _ => some .D
  | .drawerClose _ => some .D
  | .drawerUnload _ => some .D
  | .finishLoad _ => some .D
  | .finishStart => some .D
  | .finishAbort => some .D
  | .finishUnload => some .D
  | .arbiterWait port _ _ => some port
  | .unknownCommand port _ => some port
  | .wrongPortCommand port _ _ => some port
  | .powerOnReset => none
  | .selFall _ => none
  | .selRise _ => none
  | .warmTimerExpiry _ => none
  | .dryTimerExpiry _ => none
  | .overdueTimerExpiry _ => none
  | .sampleDue _ => none
  | .sensorReadStart => none
  | .sensorReadComplete _ => none
  | .byteArrival _ _ => none
  | .timerDecrement _ => none
  | .rstRise => none

/-- The command of 11.7.1 that a code and its parameter bytes name, before the port is looked at: the parameters stand
at the offsets that the command's own rule gives. -/
def commandOf (port : Port) (code : Byte) (ps : List Byte) : Option Instr :=
  match code.toNat with
  | 0x01 => some (.readStatus port)
  | 0x02 => some (.evtFreeze port)
  | 0x03 => some (.evtTake port)
  | 0x04 => some (.evtDone port)
  | 0x05 => some (.portReset port)
  | 0x06 => some (.readPlate port (byteAt ps 0))
  | 0x07 => some (.readLine port)
  | 0x10 => some (.writeType (byteAt ps 0) (typeOfBytes (ps.drop 1)))
  | 0x11 => some (.readType (byteAt ps 0))
  | 0x12 => some (.stageLot (lotOfBytes ps))
  | 0x13 => some (.hold (byteAt ps 0))
  | 0x14 => some (.release (byteAt ps 0))
  | 0x15 => some (.scrap (byteAt ps 0))
  | 0x16 => some (.purge (byteAt ps 0))
  | 0x17 => some (.setConfig (byteAt ps 0) (wordAt ps 1))
  | 0x18 => some (.readConfig (byteAt ps 0))
  | 0x19 => some (.setLoading (wordAt ps 0))
  | 0x20 => some (.loadReq (byteAt ps 0))
  | 0x21 => some (.bankOn port (byteAt ps 0))
  | 0x22 => some (.bankOff port (byteAt ps 0))
  | 0x23 => some .startBack
  | 0x24 => some .startFace
  | 0x25 => some .unload
  | 0x26 => some .frameAbort
  | 0x30 => some (.washClaim (byteAt ps 0))
  | 0x31 => some (.washDone (byteAt ps 0))
  | 0x32 => some (.washFault (byteAt ps 0))
  | 0x33 => some (.replenish (wordAt ps 0))
  | 0x34 => some .solventChange
  | 0x40 => some (.drawerLoad (byteAt ps 0) (byteAt ps 1))
  | 0x41 => some (.drawerOpen (byteAt ps 0))
  | 0x42 => some (.drawerClose (byteAt ps 0))
  | 0x43 => some (.drawerUnload (byteAt ps 0))
  | 0x44 => some (.finishLoad (byteAt ps 0))
  | 0x46 => some .finishStart
  | 0x47 => some .finishAbort
  | 0x48 => some .finishUnload
  | _ => none

/-- The command that a complete frame on a port carries: none when its code names no command, the port does not accept
it, or the number of parameter bytes is not the command's (R175, R176, R179). -/
def decodeFrame (port : Port) (bytes : List Byte) : Option Instr :=
  match bytes with
  | [] => none
  | code :: ps =>
    match commandRow code with
    | none => none
    | some row => if accepted port row && ps.length == row.params then commandOf port code ps else none

/-- The row of spec/opcode_table.json that a word spells by the table's bits. No row of this table gives bits: the
rows are pins, commands of a byte-serial frame and internal completions, so no word spells one. -/
def decodeTableWord (_nbits _w : Nat) : Option Instr := none

end Sys2Proof
end

