-- ==== Sys2Proof/Machine/State.lean ====
section
/-! DEFINITION. The state of the part as plain data, block by block in the order of 0.3, the reasons a step can stop,
and the state after power-on reset. The comment of each field cites the rule that names it; its reset value is given
in `State.reset` and in INVENTORY.md. -/

namespace Sys2Proof.Machine

/-! ### Plate Table (R1 to R5) -/

/-- The twelve plate states (R5). -/
inductive PlateState where
  | free | staged | onFrame | exposed | washing | washed | drying | dried | finishing | done | held | scrapped
  deriving DecidableEq, Repr

/-- Why a plate is HELD (R12). -/
inductive HoldReason where
  | operator | aborted | doseShort | sensor | washFault | wetRemoved
  deriving DecidableEq, Repr

/-- The state a HELD plate goes to on RELEASE (1.1.1, R13). -/
inductive HeldFrom where
  | staged | exposed | washed | dried | done
  deriving DecidableEq, Repr

/-- The lane or lanes an ON_FRAME plate occupies (1.1.1). -/
inductive LanePlace where
  | a | b | both
  deriving DecidableEq, Repr

/-- The eleven marks (R6). -/
inductive Mark where
  | floorLow | floorHigh | coverClamp | trimClamp | faceClamp | washShort | washLong | doseShort | sensorSat
  | sensorFail | overdue
  deriving DecidableEq, Repr

/-- The marks set of a plate, one flag for each mark (R6). -/
structure Marks where
  floorLow : Bool := false
  floorHigh : Bool := false
  coverClamp : Bool := false
  trimClamp : Bool := false
  faceClamp : Bool := false
  washShort : Bool := false
  washLong : Bool := false
  doseShort : Bool := false
  sensorSat : Bool := false
  sensorFail : Bool := false
  overdue : Bool := false
  deriving DecidableEq, Repr

/-- A plate record (1.1.1). The defaults are the cleared condition of R2. -/
structure Plate where
  state : PlateState := .free
  typeIx : Fin 16 := 0
  lot : Nat := 0
  copy : Nat := 0
  rush : Bool := false
  width : Nat := 0
  length : Nat := 0
  nonimage : Nat := 0
  relief : Nat := 0
  trim : Int := 0
  floor : Nat := 0
  backTarget : Nat := 0
  faceTarget : Nat := 0
  backDelivered : Nat := 0
  faceDelivered : Nat := 0
  detackDelivered : Nat := 0
  postDelivered : Nat := 0
  mass : Nat := 0
  massCounted : Bool := false
  dryRemaining : Nat := 0
  holdPending : Bool := false
  marks : Marks := {}
  lane : Option LanePlace := none
  speed : Option Nat := none
  drawer : Option DrawerIx := none
  holdReason : Option HoldReason := none
  heldFrom : Option HeldFrom := none
  deriving DecidableEq, Repr

/-- The cleared record of a FREE slot (R2). -/
def Plate.cleared : Plate := {}

/-! ### Type Table (R27) -/

/-- One point of a floor curve (2.1.1). -/
structure CurvePoint where
  dose : Nat := 0
  floor : Nat := 0
  deriving DecidableEq, Repr

/-- A plate-type record (2.1.1). The defaults are the cleared condition of R27. -/
structure TypeRec where
  valid : Bool := false
  thickness : Nat := 0
  curve : Vector CurvePoint 6 := Vector.replicate 6 {}
  faceDose : Nat := 0
  backMaxS : Nat := 0
  faceMaxS : Nat := 0
  rateFresh : Nat := 0
  sens : Nat := 0
  density : Nat := 0
  dryBase : Nat := 0
  drySlope : Nat := 0
  detackDose : Nat := 0
  postDose : Nat := 0
  detackMaxS : Nat := 0
  postMaxS : Nat := 0
  deriving DecidableEq, Repr

/-- The cleared record of an invalid type (R27). -/
def TypeRec.cleared : TypeRec := {}

/-! ### Frame Unit (R78) -/

/-- The six frame states (R78). -/
inductive FrameState where
  | empty | loaded | backRun | backEnd | faceRun | faceEnd
  deriving DecidableEq, Repr

/-- A lane record: the plate on the lane, the failure mark and the short mark of the present load (R78). -/
structure Lane where
  slot : Option Slot := none
  failure : Bool := false
  short : Bool := false
  deriving DecidableEq, Repr

/-- The Frame Unit: its state and the records of lane A and lane B (R78). -/
structure FrameUnit where
  state : FrameState := .empty
  laneA : Lane := {}
  laneB : Lane := {}
  deriving DecidableEq, Repr

/-! ### Lamp Monitor (R94) -/

/-- The three bank states (R94). -/
inductive BankState where
  | off | warming | ready
  deriving DecidableEq, Repr

/-- A lamp bank: its state, the seconds left on its warm timer, and its reference irradiance, none while unknown
(R94, R99). -/
structure BankRec where
  state : BankState := .off
  warm : Nat := 0
  ref : Option Nat := none
  deriving DecidableEq, Repr

/-! ### Light Integrator and Sensor Link (R101, R107) -/

/-- The five channel states (R102). -/
inductive ChanState where
  | idle | running | paused | stopped | failed
  deriving DecidableEq, Repr

/-- Why a channel stopped (R101). -/
inductive StopResult where
  | reached | timeLimit | aborted
  deriving DecidableEq, Repr

/-- A channel record, field by field as R101 lists it. The defaults are the IDLE channel. -/
structure Channel where
  state : ChanState := .idle
  result : Option StopResult := none
  slot : Option Slot := none
  partner : Option Chan := none
  need : Option Nat := none
  limit : Option Nat := none
  accumulator : Nat := 0
  elapsed : Nat := 0
  interval : Option Nat := none
  lastGood : Nat := 0
  badCount : Nat := 0
  readOutstanding : Bool := false
  deriving DecidableEq, Repr

/-- The IDLE channel, every count 0 (R102, R119). -/
def Channel.idle : Channel := {}

/-- What passes on the two wires in one bit time of a sensor read (R108, R109): the start condition, a bit driven by
the link, a bit driven by the sensor, the clock at which a listener acknowledges (held low) or does not (left high),
and the stop condition. -/
inductive WireSymbol where
  | start
  | linkBit (bit : Bool)
  | sensorBit (bit : Bool)
  | sensorAck (held : Bool)
  | linkAck (held : Bool)
  | stop
  deriving DecidableEq, Repr

/-- The read transaction on the link: its channel, the length Ts of the interval it is credited to, and whether its
reading will still be credited (it is discarded once the channel has left RUNNING, R106). -/
structure LinkRead where
  chan : Chan
  ts : Nat
  live : Bool
  deriving DecidableEq, Repr

/-- The Sensor Link (R107): the transaction it carries, none while idle; the due list, one possible request for each
channel, holding the Ts of the interval that fell due; and the bit times of the transaction under way or, while idle,
of the last one (R108). -/
structure Link where
  busy : Option LinkRead := none
  due : Vector (Option Nat) 6 := Vector.replicate 6 none
  wire : List WireSymbol := []
  deriving DecidableEq, Repr

/-! ### Washout Unit (R122 to R127) -/

/-- An entry of the transit list (R124). -/
structure TransitEntry where
  slot : Slot
  remaining : Nat
  expired : Bool
  deriving DecidableEq, Repr

/-- The three gate states (R127). -/
inductive Gate where
  | unknown | opened | spent
  deriving DecidableEq, Repr

/-- The solvent account: the dissolved mass M in tenths of a gram, none while unknown (R126), the gate and the warn flag
(R127). -/
structure Solvent where
  mass : Option Nat := none
  gate : Gate := .unknown
  warn : Bool := false
  deriving DecidableEq, Repr

/-! ### Drawer Unit and Finisher Unit (R143, R155) -/

/-- The four drawer states (R143). -/
inductive DrawerState where
  | empty | drying | opened | dry
  deriving DecidableEq, Repr

/-- A drawer: its state, the plate it references, and its remaining time in seconds (R143). -/
structure Drawer where
  state : DrawerState := .empty
  slot : Option Slot := none
  remaining : Nat := 0
  deriving DecidableEq, Repr

/-- The four states of the finisher position (R155). -/
inductive FinisherState where
  | empty | loaded | running | ended
  deriving DecidableEq, Repr

/-- The finisher position record (R155). -/
structure Finisher where
  state : FinisherState := .empty
  slot : Option Slot := none
  failure : Bool := false
  short : Bool := false
  deriving DecidableEq, Repr

/-! ### Attention Unit (R164 to R168) -/

/-- The nine event classes, in priority order (R164). -/
inductive EventClass where
  | channelStop | phaseEnd | bankReady | plateHeld | solvent | overdue | queueReady | drawerDry | plateDone
  deriving DecidableEq, Repr

/-- A queued event (R164); a slot of none is the code 0xFF. -/
structure Entry where
  cls : EventClass
  slot : Option Slot
  param : Nat
  recurrence : Nat
  deriving DecidableEq, Repr

/-- What makes two queue entries the same (R166): class and slot. -/
structure EventKey where
  cls : EventClass
  slot : Option Slot
  deriving DecidableEq, Repr

/-- A port's attention state: the event queue, front first (R166), the frozen entry, named by its key (R169), the
in-service set, bit n for class n (R168, R181), and OVERRUN (R167). -/
structure Attention where
  queue : List Entry := []
  frozen : Option EventKey := none
  inService : BitVec 9 := 0
  overrun : Bool := false
  deriving DecidableEq, Repr

/-! ### Port Interface (R175 to R182) -/

/-- A port's last-frame error (R180). -/
inductive FrameError where
  | none | frameShort | replyCut
  deriving DecidableEq, Repr

/-- A port's frame assembly (R176 to R179). -/
inductive Frame where
  /-- No frame: the port waits for the next fall of SEL. -/
  | idle
  /-- Fewer bytes have arrived than the command takes; `got` holds them, the code first. -/
  | receiving (got : List Byte)
  /-- The command waits at the table arbiter; `bytes` is its code and its parameters. -/
  | waiting (bytes : List Byte)
  /-- An answer is on its way out: `filler` bytes of 0xFF, then `rest`, then 0x00 for ever. `acted` tells a command that
  has taken effect from the two answers of R179, which leave the last-frame error alone. -/
  | answering (filler : Nat) (rest : List Byte) (acted : Bool)
  deriving DecidableEq, Repr

/-- One clock of a port: the bit on its data in and the bit on its data out (R176). -/
structure LineClock where
  dataIn : Bool
  dataOut : Bool
  deriving DecidableEq, Repr

/-- A port: the level of its SEL input (R176), its frame, the byte clocked out with the last byte clocked in, none where
no byte of the frame has been clocked yet, the eight clocks of that byte, first to last, its last-frame error and its
attention state. -/
structure PortRec where
  selLow : Bool := false
  frame : Frame := .idle
  dataOut : Option Byte := none
  clocks : List LineClock := []
  lastError : FrameError := .none
  attn : Attention := {}
  deriving DecidableEq, Repr

/-! ### Configuration (11.6) -/

/-- The sixteen configuration items (11.6.1). -/
inductive Item where
  | sampleDiv | warmBack | warmFace | warmDetack | warmPost | laneWidth | bedLength | pairTol | brushLen | vMin | vMax
  | tankL | lWarn | lHold | lResume | washTail
  deriving DecidableEq, Repr

/-- The code of a configuration item (11.6.1). -/
def Item.index : Item → Fin 16
  | .sampleDiv => 0 | .warmBack => 1 | .warmFace => 2 | .warmDetack => 3 | .warmPost => 4 | .laneWidth => 5
  | .bedLength => 6 | .pairTol => 7 | .brushLen => 8 | .vMin => 9 | .vMax => 10 | .tankL => 11 | .lWarn => 12
  | .lHold => 13 | .lResume => 14 | .washTail => 15

/-- The default of each item, in the order of the codes (11.6.1). -/
def configDefaults : Vector Nat 16 :=
  #v[10, 90, 90, 120, 120, 760, 1270, 25, 1200, 40, 600, 300, 250, 300, 220, 300]

/-! ### The whole part -/

/-- The state of the LC64. -/
structure State where
  /-- RST is low (R182). -/
  rstLow : Bool
  /-- The sixty-four plate records (R1). -/
  plates : Vector Plate 64
  /-- The sixteen type records (R27). -/
  types : Vector TypeRec 16
  /-- The arbiter's pointer (R19). The commands that wait are those of the ports whose frame is `waiting`. -/
  pointer : Port
  /-- The exposure queue, head first (R62). -/
  exposureQ : List Slot
  /-- The Frame Unit (R78). -/
  frame : FrameUnit
  /-- The four banks, by code (R94). -/
  banks : Vector BankRec 4
  /-- The six channels, by number (R101). -/
  chans : Vector Channel 6
  /-- The Sensor Link (R107). -/
  link : Link
  /-- The washout queue, head first (R122). -/
  washQ : List Slot
  /-- The transit list, oldest first (R124). -/
  transit : List TransitEntry
  /-- The solvent account (R126, R127). -/
  solvent : Solvent
  /-- The dryer wait list, head first (R142). -/
  dryerQ : List Slot
  /-- The four drawers (R143). -/
  drawers : Vector Drawer 4
  /-- The finisher wait list, head first (R154). -/
  finisherQ : List Slot
  /-- The finisher position (R155). -/
  finisher : Finisher
  /-- The four ports, in the order P, E, W, D: frames, errors, pins and attention state (R164 to R182). -/
  ports : Vector PortRec 4
  /-- The sixteen configuration items, by code (R185, 11.6.1). -/
  config : Vector Nat 16
  /-- The MODEL's own field: how many bytes of `Config.strayByte` have been clocked out (log entry 5). -/
  strayCount : Nat
  /-- The MODEL's own field: the events that have yet to happen, first in, first out. -/
  pending : List Instr
  deriving DecidableEq, Repr

/-- What stops the machine. The manual names no condition in which the part stops: every command is answered with a
result code in every state, and every event has an outcome. No meaning of this model ends in a fault. -/
inductive Fault where
  deriving DecidableEq, Repr

/-- Why a step is refused. -/
inductive Refusal where
  /-- Raised by an arm of `exec` whose row has no meaning yet: none in this model. Safe: the machine stops. -/
  | notModelled (mnemonic : String)
  deriving DecidableEq, Repr

/-- The part after a power-on reset, once RST has risen: every block in the state its own chapter gives (R25, R37, R66,
R100, R121, R141, R153, R163, R174, R182, R186). -/
def State.reset : State where
  rstLow := false
  plates := Vector.replicate 64 Plate.cleared
  types := Vector.replicate 16 TypeRec.cleared
  pointer := .P
  exposureQ := []
  frame := {}
  banks := Vector.replicate 4 {}
  chans := Vector.replicate 6 Channel.idle
  link := {}
  washQ := []
  transit := []
  solvent := {}
  dryerQ := []
  drawers := Vector.replicate 4 {}
  finisherQ := []
  finisher := {}
  ports := Vector.replicate 4 {}
  config := configDefaults
  strayCount := 0
  pending := []

end Sys2Proof.Machine
end

