-- ==== Sys2Proof/Machine/Flags.lean ====
section
/-! DEFINITION. Every flag, mark and code the manual gives: the marks set (R6), the state and reason codes of the replies
(1.6.1, R12, R184), the result codes (11.7.2), event ranks and eligibility (R164, R168), and the STOP lines (R103). -/

namespace Sys2Proof.Machine

/-! ### Marks -/

/-- A mark is in the set (R6). -/
def Marks.has (m : Marks) : Mark → Bool
  | .floorLow => m.floorLow
  | .floorHigh => m.floorHigh
  | .coverClamp => m.coverClamp
  | .trimClamp => m.trimClamp
  | .faceClamp => m.faceClamp
  | .washShort => m.washShort
  | .washLong => m.washLong
  | .doseShort => m.doseShort
  | .sensorSat => m.sensorSat
  | .sensorFail => m.sensorFail
  | .overdue => m.overdue

/-- The set with a mark set; a mark already set leaves it as it was (R6). -/
def Marks.add (m : Marks) : Mark → Marks
  | .floorLow => { m with floorLow := true }
  | .floorHigh => { m with floorHigh := true }
  | .coverClamp => { m with coverClamp := true }
  | .trimClamp => { m with trimClamp := true }
  | .faceClamp => { m with faceClamp := true }
  | .washShort => { m with washShort := true }
  | .washLong => { m with washLong := true }
  | .doseShort => { m with doseShort := true }
  | .sensorSat => { m with sensorSat := true }
  | .sensorFail => { m with sensorFail := true }
  | .overdue => { m with overdue := true }

/-- A mark is set when a condition holds. -/
def Marks.addIf (m : Marks) (cond : Bool) (k : Mark) : Marks := if cond then m.add k else m

/-- The number whose bit n is the n-th flag of a list. -/
def flagBits : List Bool → Nat
  | [] => 0
  | b :: bs => b.toNat + 2 * flagBits bs

/-- The marks field of the plate record reply: bit 0 FLOOR_LOW to bit 10 OVERDUE (1.6.1). -/
def Marks.bits (m : Marks) : Nat :=
  flagBits [m.floorLow, m.floorHigh, m.coverClamp, m.trimClamp, m.faceClamp, m.washShort, m.washLong, m.doseShort,
    m.sensorSat, m.sensorFail, m.overdue]

/-! ### Codes of states and reasons -/

/-- The state codes of 1.6.1. -/
def PlateState.code : PlateState → Nat
  | .free => 0 | .staged => 1 | .onFrame => 2 | .exposed => 3 | .washing => 4 | .washed => 5 | .drying => 6
  | .dried => 7 | .finishing => 8 | .done => 9 | .held => 10 | .scrapped => 11

/-- The reason codes of R12. -/
def HoldReason.code : HoldReason → Nat
  | .operator => 0 | .aborted => 1 | .doseShort => 2 | .sensor => 3 | .washFault => 4 | .wetRemoved => 5

/-- The state that a held_from names (1.1.1). -/
def HeldFrom.state : HeldFrom → PlateState
  | .staged => .staged | .exposed => .exposed | .washed => .washed | .dried => .dried | .done => .done

/-- The lane codes of 1.6.1. -/
def LanePlace.code : LanePlace → Nat
  | .a => 0 | .b => 1 | .both => 2

/-- The frame state codes of R184. -/
def FrameState.code : FrameState → Nat
  | .empty => 0 | .loaded => 1 | .backRun => 2 | .backEnd => 3 | .faceRun => 4 | .faceEnd => 5

/-- The bank state codes of R184. -/
def BankState.code : BankState → Nat
  | .off => 0 | .warming => 1 | .ready => 2

/-- The channel state codes of R184. -/
def ChanState.code : ChanState → Nat
  | .idle => 0 | .running => 1 | .paused => 2 | .stopped => 3 | .failed => 4

/-- The channel result codes of R184 and R115. -/
def StopResult.code : StopResult → Nat
  | .reached => 0 | .timeLimit => 1 | .aborted => 2

/-- The result code of a FAILED end in a CHANNEL_STOP (R115). -/
def failedCode : Nat := 3

/-- The drawer state codes of R184. -/
def DrawerState.code : DrawerState → Nat
  | .empty => 0 | .drying => 1 | .opened => 2 | .dry => 3

/-- The finisher position state codes of R184. -/
def FinisherState.code : FinisherState → Nat
  | .empty => 0 | .loaded => 1 | .running => 2 | .ended => 3

/-- The gate codes of R184; 0 and 1 are also the SOLVENT parameters of R127. -/
def Gate.code : Gate → Nat
  | .opened => 0 | .spent => 1 | .unknown => 2

/-- The SOLVENT parameter WARN (R127). -/
def warnParam : Nat := 2

/-- The last-frame error codes of R181. -/
def FrameError.code : FrameError → Nat
  | .none => 0 | .frameShort => 1 | .replyCut => 2

/-- A plate in a waiting state sits in a list (1.2.1). -/
def PlateState.isWaiting : PlateState → Bool
  | .staged => true | .exposed => true | .washed => true | .dried => true
  | .free => false | .onFrame => false | .washing => false | .drying => false | .finishing => false
  | .done => false | .held => false | .scrapped => false

/-- A plate in an active state is in a machine (1.2.1). -/
def PlateState.isActive : PlateState → Bool
  | .onFrame => true | .washing => true | .drying => true | .finishing => true
  | .free => false | .staged => false | .exposed => false | .washed => false | .dried => false
  | .done => false | .held => false | .scrapped => false

/-- A plate whose state keeps its type in use (R32). -/
def PlateState.usesType (st : PlateState) : Bool := st.isWaiting || st.isActive || st == .held

/-- The held_from of a waiting state that HOLD takes a plate from (R8). -/
def PlateState.asHeldFrom : PlateState → Option HeldFrom
  | .staged => some .staged | .exposed => some .exposed | .washed => some .washed | .dried => some .dried
  | .free => none | .onFrame => none | .washing => none | .drying => none | .finishing => none
  | .done => none | .held => none | .scrapped => none

/-! ### Results and replies -/

/-- The result codes by name (11.7.2). -/
inductive Result where
  | ok | clamped | unknownCommand | wrongPort | badSlot | badState | plateActive | queueEmpty | full | typeInvalid
  | typeInUse | badCurve | badRelief | badSize | bankNotReady | drawerBusy | drawerEmpty | transitFull
  | solventSpent | loadingUnknown | order | notFrozen | none | busy | badParam
  deriving DecidableEq, Repr

/-- The byte of a result (11.7.2). -/
def Result.code : Result → Byte
  | .ok => 0x00 | .clamped => 0x01 | .unknownCommand => 0x10 | .wrongPort => 0x11 | .badSlot => 0x12
  | .badState => 0x13 | .plateActive => 0x14 | .queueEmpty => 0x15 | .full => 0x16 | .typeInvalid => 0x17
  | .typeInUse => 0x18 | .badCurve => 0x19 | .badRelief => 0x1A | .badSize => 0x1B | .bankNotReady => 0x1C
  | .drawerBusy => 0x1D | .drawerEmpty => 0x1E | .transitFull => 0x1F | .solventSpent => 0x20
  | .loadingUnknown => 0x21 | .order => 0x22 | .notFrozen => 0x23 | .none => 0x24 | .busy => 0x25
  | .badParam => 0x26

/-- A reply: its result and its data bytes (R177). -/
structure Reply where
  result : Result
  data : List Byte
  deriving DecidableEq, Repr

/-- The bytes of a reply as they are clocked out (R177). -/
def Reply.bytes (r : Reply) : List Byte := r.result.code :: r.data

/-- A reply that is its result alone. -/
def Reply.just (r : Result) : Reply := ⟨r, []⟩

/-- OK or CLAMPED, by whether a figure was brought into range. -/
def okOrClamped (clamped : Bool) : Result := if clamped then .clamped else .ok

/-! ### Events -/

/-- The number of an event class: the smaller, the higher its priority (R164). -/
def EventClass.rank : EventClass → Nat
  | .channelStop => 0 | .phaseEnd => 1 | .bankReady => 2 | .plateHeld => 3 | .solvent => 4 | .overdue => 5
  | .queueReady => 6 | .drawerDry => 7 | .plateDone => 8

/-- The class of a number (R164). -/
def EventClass.ofRank : Nat → Option EventClass
  | 0 => some .channelStop | 1 => some .phaseEnd | 2 => some .bankReady | 3 => some .plateHeld | 4 => some .solvent
  | 5 => some .overdue | 6 => some .queueReady | 7 => some .drawerDry | 8 => some .plateDone
  | _ => none

/-- The key of a queue entry (R166). -/
def Entry.key (x : Entry) : EventKey := ⟨x.cls, x.slot⟩

/-- A class is eligible when it outranks every class in service (R168). -/
def Attention.eligibleClass (a : Attention) (c : EventClass) : Bool :=
  (List.range (c.rank + 1)).all (fun n => !a.inService.getLsbD n)

/-- The port's ATN line is asserted while its queue holds an eligible entry (R168). -/
def Attention.atn (a : Attention) : Bool := a.queue.any (fun x => a.eligibleClass x.cls)

/-- The highest-priority class in service (R171). -/
def Attention.topInService (a : Attention) : Option Nat := (List.range 9).find? (fun n => a.inService.getLsbD n)

/-! ### Channels -/

/-- A channel that has been started and has not ended: RUNNING or PAUSED (R82). -/
def ChanState.isActive : ChanState → Bool
  | .running => true | .paused => true | .idle => false | .stopped => false | .failed => false

/-- The STOP line of a channel is released while the channel is RUNNING or PAUSED and asserted otherwise (R103). -/
def Channel.stopAsserted (k : Channel) : Bool := !k.state.isActive

end Sys2Proof.Machine
end

