-- ==== Sys2Proof/Machine/Operands.lean ====
section
/-! DEFINITION. The operand forms of the commands and the byte forms of the replies: slot codes and "next" (0.6.2), bank,
drawer, type and item codes, two's complement trim, numbers sent most significant byte first (0.6.3), absent codes
(1.6.1), and the fixed ties of a channel to its bank, port and lane (R101). -/

namespace Sys2Proof.Machine

/-! ### Operands -/

/-- A slot code: 0 to 63 name a slot, 0xFF is "next", every other code names nothing (0.6.2, R1). -/
inductive SlotCode where
  | named (i : Slot)
  | next
  | bad
  deriving DecidableEq, Repr

/-- The slot a byte names, none above 63 (R1). -/
def namedSlot (b : Byte) : Option Slot := if h : b.toNat < 64 then some ⟨b.toNat, h⟩ else none

/-- A slot code in a command that allows "next" (0.6.2). -/
def slotCode (b : Byte) : SlotCode :=
  match namedSlot b with
  | some i => .named i
  | none => if b = 0xFF then .next else .bad

/-- The type a byte names, none above 15 (R27). -/
def namedType (b : Byte) : Option (Fin 16) := if h : b.toNat < 16 then some ⟨b.toNat, h⟩ else none

/-- The drawer a byte names, none above 3 (R143). -/
def namedDrawer (b : Byte) : Option DrawerIx := if h : b.toNat < 4 then some ⟨b.toNat, h⟩ else none

/-- The bank a byte names, none above 3 (R94). -/
def namedBank (b : Byte) : Option Bank :=
  match b.toNat with
  | 0 => some .back
  | 1 => some .face
  | 2 => some .detack
  | 3 => some .post
  | _ => none

/-- The configuration item a byte names, none above 15 (11.6.1). -/
def namedItem (b : Byte) : Option Item :=
  match b.toNat with
  | 0 => some .sampleDiv
  | 1 => some .warmBack
  | 2 => some .warmFace
  | 3 => some .warmDetack
  | 4 => some .warmPost
  | 5 => some .laneWidth
  | 6 => some .bedLength
  | 7 => some .pairTol
  | 8 => some .brushLen
  | 9 => some .vMin
  | 10 => some .vMax
  | 11 => some .tankL
  | 12 => some .lWarn
  | 13 => some .lHold
  | 14 => some .lResume
  | 15 => some .washTail
  | _ => none

/-- The range of a configuration item (11.6.1). -/
def Item.range : Item → Nat × Nat
  | .sampleDiv => (1, 16)
  | .warmBack => (0, 600)
  | .warmFace => (0, 600)
  | .warmDetack => (0, 600)
  | .warmPost => (0, 600)
  | .laneWidth => (300, 1500)
  | .bedLength => (500, 2500)
  | .pairTol => (0, 100)
  | .brushLen => (200, 3000)
  | .vMin => (20, 1000)
  | .vMax => (100, 3000)
  | .tankL => (50, 2000)
  | .lWarn => (0, 1000)
  | .lHold => (1, 1000)
  | .lResume => (0, 999)
  | .washTail => (0, 1800)

/-- The items whose change is followed by a gate evaluation (R127, R185). -/
def Item.movesGate : Item → Bool
  | .tankL => true | .lWarn => true | .lHold => true | .lResume => true
  | .sampleDiv => false | .warmBack => false | .warmFace => false | .warmDetack => false | .warmPost => false
  | .laneWidth => false | .bedLength => false | .pairTol => false | .brushLen => false | .vMin => false
  | .vMax => false | .washTail => false

/-- A value brought into a range: raised to its lower end or lowered to its upper end (0.6.5). -/
def clampTo (lo hi v : Nat) : Nat := if v < lo then lo else if hi < v then hi else v

/-! ### Reply bytes -/

/-- A number as n bytes, most significant first (0.6.3). -/
def beBytes : Nat → Nat → List Byte
  | 0, _ => []
  | n + 1, v => BitVec.ofNat 8 (v / 256 ^ n) :: beBytes n v

/-- A number as one byte. -/
def byte1 (v : Nat) : Byte := BitVec.ofNat 8 v

/-- A slot in a reply or an event identifier; an absent slot is 0xFF (0.6.2, R184). -/
def slotByte : Option Slot → Byte
  | some i => byte1 i.val
  | none => 0xFF

/-- A small code in a reply, 0xFF when absent (1.6.1). -/
def codeOrFF : Option Nat → Byte
  | some v => byte1 v
  | none => 0xFF

/-- A flag as a byte. -/
def flagByte (b : Bool) : Byte := byte1 b.toNat

/-! ### The ties of channels and banks -/

/-- The channels in number order (R101). -/
def allChans : List Chan := [.backA, .backB, .faceA, .faceB, .detack, .post]

/-- The banks in code order (R94). -/
def allBanks : List Bank := [.back, .face, .detack, .post]

/-- A lane of the frame. -/
inductive LaneId where
  | a | b
  deriving DecidableEq, Repr

end Sys2Proof.Machine

namespace Sys2Proof

open Machine (Item LaneId)

/-- The bank a channel reads its light from (R101). -/
def Chan.bank : Chan → Bank
  | .backA => .back | .backB => .back | .faceA => .face | .faceB => .face | .detack => .detack | .post => .post

/-- The port a channel's stops are reported to (R101). -/
def Chan.port : Chan → Port
  | .backA => .E | .backB => .E | .faceA => .E | .faceB => .E | .detack => .D | .post => .D

/-- The address of a channel's sensor (R101). -/
def Chan.sensorAddress : Chan → BitVec 7
  | .backA => 0x30 | .backB => 0x31 | .faceA => 0x32 | .faceB => 0x33 | .detack => 0x34 | .post => 0x35

/-- The lane a channel exposes (R79); none for the finisher's channels. -/
def Chan.lane : Chan → Option LaneId
  | .backA => some .a | .backB => some .b | .faceA => some .a | .faceB => some .b | .detack => none | .post => none

/-- The port that owns a bank (R94). -/
def Bank.owner : Bank → Port
  | .back => .E | .face => .E | .detack => .D | .post => .D

/-- The warm time item of a bank (R94). -/
def Bank.warmItem : Bank → Item
  | .back => .warmBack | .face => .warmFace | .detack => .warmDetack | .post => .warmPost

/-- The channels of a bank (R94). -/
def Bank.chans : Bank → List Chan
  | .back => [.backA, .backB] | .face => [.faceA, .faceB] | .detack => [.detack] | .post => [.post]

/-- The port after a port in the cycle P, E, W, D (R19). -/
def Port.next : Port → Port
  | .P => .E | .E => .W | .W => .D | .D => .P

end Sys2Proof

namespace Sys2Proof.Machine

/-- The order in which the arbiter looks at the ports, from its pointer on (R19). -/
def arbiterCycle (pointer : Port) : List Port := [pointer, pointer.next, pointer.next.next, pointer.next.next.next]

/-! ### The clocks of a port's byte (R176) -/

/-- The bits of a vector, most significant first. -/
def bitsMsbFirst {n : Nat} (v : BitVec n) : List Bool := (List.range n).map (fun k => v.getMsbD k)

/-- The eight clocks of a byte, one bit each way per clock, most significant bit first (R176). -/
def lineClocks (sent out : Byte) : List LineClock := List.zipWith LineClock.mk (bitsMsbFirst sent) (bitsMsbFirst out)

/-- A bit shifted in behind those before it: the first bit shifted in ends as the most significant (R176). -/
def shiftIn (v : Byte) (bit : Bool) : Byte := (v <<< 1) ||| (BitVec.ofBool bit).setWidth 8

/-- The byte that eight clocks bring in (R176). -/
def receivedByte (clocks : List LineClock) : Byte := clocks.foldl (fun v k => shiftIn v k.dataIn) 0

/-! ### The bit times of a sensor read (R108) -/

/-- Steps 1 and 2 of a read: the start condition, the seven address bits and the direction bit 1. -/
def wireHead (address : BitVec 7) : List WireSymbol :=
  .start :: (bitsMsbFirst address).map .linkBit ++ [.linkBit true]

/-- Steps 3 to 6: with a reading, the sensor's acknowledge, its two bytes, the link's acknowledge of the first alone,
and the stop condition; with no answer, the data wire left high and the stop condition. -/
def wireTail : Option Word → List WireSymbol
  | some v =>
    .sensorAck true :: (bitsMsbFirst (v.extractLsb' 8 8)).map .sensorBit ++ [.linkAck true]
      ++ (bitsMsbFirst (v.setWidth 8)).map .sensorBit ++ [.linkAck false, .stop]
  | none => [.sensorAck false, .stop]

end Sys2Proof.Machine
end

