-- ==== Sys2Proof/Machine/Calculator.lean ====
section
/-! DEFINITION. The Process Calculator (chapter 3): formulas with no state of their own (R38). Rounding words as 0.6.5
fixes them; a clamp comes after the rounding. -/

namespace Sys2Proof.Machine

/-- n / d to the nearest whole number, an exact half going upward (0.6.5). -/
def roundDiv (n d : Nat) : Nat := (2 * n + d) / (2 * d)

/-- n / d, ceiled (0.6.5). -/
def ceilDiv (n d : Nat) : Nat := (n + d - 1) / d

/-- The largest figure an accumulator or a delivered field holds, 2^48 − 1 (R4, R48). -/
def doseMax : Nat := 2 ^ 48 - 1

/-- A sum of doses, held at 2^48 − 1 (R4, R48). -/
def doseAdd (a b : Nat) : Nat := min doseMax (a + b)

/-! ### Floor and back target (R39 to R41) -/

/-- The back target on the lowest-numbered segment whose upper end is at or above the floor F (R40): the caller has seen
that F is not below the first point nor above the last. -/
def interpolate (f : Nat) : List CurvePoint → Nat
  | a :: b :: rest =>
    if f ≤ b.floor then
      roundDiv (a.dose * (b.floor - a.floor) + (f - a.floor) * (b.dose - a.dose)) (b.floor - a.floor)
    else interpolate f (b :: rest)
  | [a] => a.dose
  | [] => 0

/-- The floor lies below the first point of the curve (R41). -/
def floorLow (curve : Vector CurvePoint 6) (f : Nat) : Bool := decide (f < curve[0].floor)

/-- The floor lies above the last point of the curve (R41). -/
def floorHigh (curve : Vector CurvePoint 6) (f : Nat) : Bool := decide (curve[5].floor < f)

/-- The back target of a floor (R40, R41). -/
def backTarget (curve : Vector CurvePoint 6) (f : Nat) : Nat :=
  if floorLow curve f then curve[0].dose
  else if floorHigh curve f then curve[5].dose
  else interpolate f curve.toList

/-! ### Face target (R42, R43) -/

/-- A trim brought into −20 to +20 percent (R42). -/
def clampTrim (t : Int) : Int := if t < -20 then -20 else if 20 < t then 20 else t

/-- A nonimage figure brought to at most 100 percent (R42). -/
def clampNonimage (n : Nat) : Nat := if 100 < n then 100 else n

/-- The trimmed face dose, rounded, before its clamp (R43); the trim is at least −20, so the factor is positive. -/
def faceDoseTrimmed (faceDose : Nat) (trim : Int) : Nat := roundDiv (faceDose * (100 + trim).toNat) 100

/-- The face target (R43). -/
def faceTarget (faceDose : Nat) (trim : Int) : Nat := clampTo 1 65535 (faceDoseTrimmed faceDose trim)

/-! ### Need, estimates and the tolerance comparison (R44 to R47) -/

/-- The four phases of light (R44). -/
inductive Phase where
  | back | face | detack | post
  deriving DecidableEq, Repr

end Sys2Proof.Machine

namespace Sys2Proof

/-- The phase of a channel (R44, R101). -/
def Chan.phase : Chan → Machine.Phase
  | .backA => .back | .backB => .back | .faceA => .face | .faceB => .face | .detack => .detack | .post => .post

end Sys2Proof

namespace Sys2Proof.Machine

/-- The need of a phase, in accumulator units, signed (R44). -/
def phaseNeed (target delivered : Nat) : Int := (target : Int) * 100000 - (delivered : Int)

/-- The estimate of a phase in seconds, none when the reference irradiance is unknown (R45). -/
def estimate (ref : Option Nat) (need : Int) : Option Nat :=
  match ref with
  | none => none
  | some r => if need ≤ 0 then some 0 else some (ceilDiv need.toNat (r * 1000))

/-- The total of a back and a face estimate, none when either is (R46). -/
def totalEstimate (back face : Option Nat) : Option Nat :=
  match back, face with
  | some b, some f => some (b + f)
  | _, _ => none

/-- The difference of two figures, whichever is the larger. -/
def absDiff (a b : Nat) : Nat := (a - b) + (b - a)

/-- The tolerance comparison, by cross-multiplication (R47). -/
def compatible (pairTol : Nat) (head cand : Option Nat) : Bool :=
  match head, cand with
  | some h, some c => decide (absDiff h c * 100 ≤ pairTol * max h c)
  | _, _ => true

/-! ### Reference irradiance (R51) -/

/-- The average reading over a run, rounded and raised to 1 (R51). -/
def referenceOf (accumulator elapsed : Nat) : Nat := max 1 (roundDiv accumulator elapsed)

/-! ### Solvent, speed and overdue time (R52 to R56) -/

/-- The loading of a mass in a tank volume, floored (R52, R53). -/
def loadingOf (mass volume : Nat) : Nat := mass / volume

/-- The rate factor in permille, clamped to 250 to 1,000 (R54). -/
def rateFactor (sens projected : Nat) : Nat :=
  clampTo 250 1000 ((1000 : Int) - ((sens * projected / 10 : Nat) : Int)).toNat

/-- The effective rate, floored and raised to 1 (R54). -/
def effectiveRate (rateFresh factor : Nat) : Nat := max 1 (rateFresh * factor / 1000)

/-- The transport speed before its clamp, floored; relief_µm is ten times the relief (R55). -/
def rawSpeed (brushLen rate relief : Nat) : Nat := brushLen * rate / (relief * 10)

/-- The transport speed clamped by V_MIN and V_MAX (R55). -/
def clampSpeed (vMin vMax v : Nat) : Nat := clampTo vMin vMax v

/-- The overdue time, from the stored speed (R56). -/
def overdueTime (brushLen speed washTail : Nat) : Nat := 2 * ceilDiv (brushLen * 60) speed + washTail

/-! ### Mass, draining and dry time (R57, R59, R61) -/

/-- The area of a plate in square centimetres, floored (R57). -/
def plateArea (width length : Nat) : Nat := width * length / 100

/-- The mass a washout removes, in tenths of a gram, rounded (R57). -/
def removedMass (width length nonimage relief density : Nat) : Nat :=
  roundDiv (plateArea width length * nonimage * (relief * 10) * density) 100000000

/-- The mass drained with r litres of a tank of v litres, rounded (R59). -/
def drainedMass (mass r v : Nat) : Nat := roundDiv (mass * r) v

/-- The dry time in seconds (R61). -/
def drySeconds (dryBase drySlope thickness : Nat) : Nat :=
  clampTo 10 480 (dryBase + ceilDiv (thickness * drySlope) 100) * 60

end Sys2Proof.Machine
end

