-- ==== Sys2Proof/Machine/Ops.lean ====
section
/-! DEFINITION. The shared operations over the state: the one way to read and to change each record, the lists (0.6.6), a
plate becoming HELD (R10 to R12), the arrival of an event at a queue (R164 to R168), and the grant of a command by the
table arbiter (R18, R19). Every meaning is built of these. -/

namespace Sys2Proof.Machine

/-! ### Records of the state -/

/-- The record of a slot (R1). -/
def State.plate (s : State) (i : Slot) : Plate := s.plates[i]

/-- The state with the record of a slot changed. -/
def State.modPlate (s : State) (i : Slot) (f : Plate → Plate) : State :=
  { s with plates := s.plates.set i (f s.plates[i]) }

/-- The state with the record of an optional slot changed; nothing without a slot. -/
def State.modPlate? (s : State) (o : Option Slot) (f : Plate → Plate) : State :=
  match o with
  | some i => s.modPlate i f
  | none => s

/-- The type record of an index (R27). -/
def State.typeRec (s : State) (t : Fin 16) : TypeRec := s.types[t]

/-- The type record of a plate (R28). -/
def State.plateType (s : State) (i : Slot) : TypeRec := s.typeRec (s.plate i).typeIx

/-- The state with a type record written whole (R33). -/
def State.setType (s : State) (t : Fin 16) (r : TypeRec) : State := { s with types := s.types.set t r }

/-- The record of a channel (R101). -/
def State.chan (s : State) (c : Chan) : Channel := s.chans[c.index]

/-- The state with the record of a channel changed. -/
def State.modChan (s : State) (c : Chan) (f : Channel → Channel) : State :=
  { s with chans := s.chans.set c.index (f s.chans[c.index]) }

/-- The record of a bank (R94). -/
def State.bank (s : State) (b : Bank) : BankRec := s.banks[b.index]

/-- The state with the record of a bank changed. -/
def State.modBank (s : State) (b : Bank) (f : BankRec → BankRec) : State :=
  { s with banks := s.banks.set b.index (f s.banks[b.index]) }

/-- The record of a drawer (R143). -/
def State.drawer (s : State) (d : DrawerIx) : Drawer := s.drawers[d]

/-- The state with the record of a drawer changed. -/
def State.modDrawer (s : State) (d : DrawerIx) (f : Drawer → Drawer) : State :=
  { s with drawers := s.drawers.set d (f s.drawers[d]) }

/-- The record of a port (R175). -/
def State.port (s : State) (p : Port) : PortRec := s.ports[p.index]

/-- The state with the record of a port changed. -/
def State.modPort (s : State) (p : Port) (f : PortRec → PortRec) : State :=
  { s with ports := s.ports.set p.index (f s.ports[p.index]) }

/-- The stored value of a configuration item (R186). -/
def State.item (s : State) (x : Item) : Nat := s.config[x.index]

/-- The state with a configuration item stored (R185). -/
def State.setItem (s : State) (x : Item) (v : Nat) : State := { s with config := s.config.set x.index v }

/-- The record of a lane (R78). -/
def FrameUnit.lane (u : FrameUnit) : LaneId → Lane
  | .a => u.laneA
  | .b => u.laneB

/-- The frame with the record of a lane changed. -/
def FrameUnit.modLane (u : FrameUnit) (l : LaneId) (f : Lane → Lane) : FrameUnit :=
  match l with
  | .a => { u with laneA := f u.laneA }
  | .b => { u with laneB := f u.laneB }

/-- The state with the frame state changed (R78). -/
def State.setFrameState (s : State) (st : FrameState) : State := { s with frame := { s.frame with state := st } }

/-! ### Pins that follow the state -/

/-- The level of a STOP line: asserted or not (R103). -/
def State.stopAsserted (s : State) (c : Chan) : Bool := (s.chan c).stopAsserted

/-- The level of a port's ATN line: asserted or not (R168, R182). -/
def State.atn (s : State) (p : Port) : Bool := (s.port p).attn.atn && !s.rstLow

/-- A port's data out is driven while its SEL is low, and high impedance while SEL is high or RST is low (R182, 11.9). -/
def State.dataOutDriven (s : State) (p : Port) : Bool := (s.port p).selLow && !s.rstLow

/-- The two wires of the sensor link rest high, driven by nobody, while the link is idle (R107). -/
def State.linkIdle (s : State) : Bool := s.link.busy.isNone

/-! ### Events (R164 to R168) -/

/-- An event as a block posts it (R164); a slot of none is 0xFF. -/
structure Event where
  cls : EventClass
  slot : Option Slot
  param : Nat
  deriving DecidableEq, Repr

/-- The key of an event (R166). -/
def Event.key (e : Event) : EventKey := ⟨e.cls, e.slot⟩

/-- The new entry an event makes (R167). -/
def Event.entry (e : Event) : Entry := ⟨e.cls, e.slot, e.param, 0⟩

/-- The merge of an arrival into an entry of its class and slot (R166). -/
def Entry.merge (x : Entry) (e : Event) : Entry :=
  { x with param := e.param, recurrence := min 15 (x.recurrence + 1) }

/-- A queue with an entry placed after every entry of the same or a higher class and before every entry of a lower
class (R167 case 1). -/
def placeEntry (x : Entry) (q : List Entry) : List Entry :=
  q.takeWhile (fun y => decide (y.cls.rank ≤ x.cls.rank)) ++ x :: q.dropWhile (fun y => decide (y.cls.rank ≤ x.cls.rank))

/-- A list less its last element of a kind. -/
def eraseLast (p : α → Bool) : List α → List α
  | [] => []
  | x :: xs => if xs.any p then x :: eraseLast p xs else if p x then xs else x :: xs

/-- An entry that is not the port's frozen entry (R167). -/
def Attention.unfrozen (a : Attention) (x : Entry) : Bool := a.frozen != some x.key

/-- The number of the lowest-priority class among the entries that are not frozen, none when every entry is frozen
(R167 case 2). -/
def Attention.lowestUnfrozen (a : Attention) : Option Nat :=
  ((a.queue.filter a.unfrozen).map (fun x => x.cls.rank)).max?

/-- The number of entries a queue holds at most (R167). -/
def queueCapacity : Nat := 16

/-- The arrival of an event at a port's queue (R166, R167). -/
def Attention.arrive (a : Attention) (e : Event) : Attention :=
  if a.queue.any (fun x => x.key == e.key) then
    { a with queue := a.queue.map (fun x => if x.key == e.key then x.merge e else x) }
  else if a.queue.length < queueCapacity then
    { a with queue := placeEntry e.entry a.queue }
  else
    match a.lowestUnfrozen with
    | some r =>
      if e.cls.rank < r then
        { a with
          queue := placeEntry e.entry (eraseLast (fun x => a.unfrozen x && x.cls.rank == r) a.queue)
          overrun := true }
      else { a with overrun := true }
    | none => { a with overrun := true }

/-- An event posted to a port (R165). -/
def State.post (s : State) (p : Port) (e : Event) : State :=
  s.modPort p (fun q => { q with attn := q.attn.arrive e })

/-! ### Lists and QUEUE_READY (0.6.6, R65, R123, R142, R154) -/

/-- The four lists a station is told of, with the parameter of their QUEUE_READY (R13). -/
inductive WaitList where
  | exposure | dryer | finisher | wash
  deriving DecidableEq, Repr

/-- The parameter of a list's QUEUE_READY (R13). -/
def WaitList.param : WaitList → Nat
  | .exposure => 0 | .dryer => 1 | .finisher => 2 | .wash => 3

/-- The port that a list's QUEUE_READY is posted to (R13). -/
def WaitList.port : WaitList → Port
  | .exposure => .E | .dryer => .D | .finisher => .D | .wash => .W

/-- The plates of a list, head first. -/
def State.waitList (s : State) : WaitList → List Slot
  | .exposure => s.exposureQ
  | .dryer => s.dryerQ
  | .finisher => s.finisherQ
  | .wash => s.washQ

/-- The state with a list replaced. -/
def State.setWaitList (s : State) (l : WaitList) (q : List Slot) : State :=
  match l with
  | .exposure => { s with exposureQ := q }
  | .dryer => { s with dryerQ := q }
  | .finisher => { s with finisherQ := q }
  | .wash => { s with washQ := q }

/-- QUEUE_READY of a list, posted when the list was empty before a plate joined it. -/
def State.announce (s : State) (l : WaitList) (wasEmpty : Bool) : State :=
  if wasEmpty then s.post l.port ⟨.queueReady, none, l.param⟩ else s

/-- A list becomes another that holds a plate, and is announced if it was empty. -/
def State.fillList (s : State) (l : WaitList) (q : List Slot) : State :=
  (s.setWaitList l q).announce l (s.waitList l).isEmpty

/-- A plate joins the tail of a list without classes. -/
def State.joinTail (s : State) (l : WaitList) (i : Slot) : State := s.fillList l (s.waitList l ++ [i])

/-- The exposure queue's rush plates, which stand ahead of every normal plate (R62). -/
def State.rushPart (s : State) (q : List Slot) : List Slot := q.takeWhile (fun j => (s.plate j).rush)

/-- The exposure queue from its first normal plate on (R62). -/
def State.normalPart (s : State) (q : List Slot) : List Slot := q.dropWhile (fun j => (s.plate j).rush)

/-- An exposure queue with a plate at the tail of its class (R63). -/
def State.atClassTail (s : State) (q : List Slot) (i : Slot) : List Slot :=
  if (s.plate i).rush then s.rushPart q ++ i :: s.normalPart q else q ++ [i]

/-- An exposure queue with a plate at the head of its class (R63). -/
def State.atClassHead (s : State) (q : List Slot) (i : Slot) : List Slot :=
  if (s.plate i).rush then i :: q else s.rushPart q ++ i :: s.normalPart q

/-- A queue with a plate placed directly behind another. -/
def placeBehind (ahead i : Slot) : List Slot → List Slot
  | [] => [i]
  | j :: q => if j = ahead then j :: i :: q else j :: placeBehind ahead i q

/-- A plate leaves a list from any place, and the plates behind it close up (R8, R64). -/
def State.leaveList (s : State) (l : WaitList) (i : Slot) : State :=
  s.setWaitList l ((s.waitList l).filter (fun j => j != i))

/-- The list of a waiting state (R5). -/
def PlateState.waitList : PlateState → Option WaitList
  | .staged => some .exposure | .exposed => some .wash | .washed => some .dryer | .dried => some .finisher
  | .free => none | .onFrame => none | .washing => none | .drying => none | .finishing => none
  | .done => none | .held => none | .scrapped => none

/-- A plate leaves the list of its state, if it is in a waiting state. -/
def State.leaveOwnList (s : State) (i : Slot) : State :=
  match (s.plate i).state.waitList with
  | some l => s.leaveList l i
  | none => s

/-! ### Plates -/

/-- A plate's record in another state. -/
def Plate.inState (p : Plate) (st : PlateState) : Plate := { p with state := st }

/-- A plate's record HELD for a reason; a pending hold is satisfied by it (R10, R11). -/
def Plate.heldFor (p : Plate) (reason : HoldReason) (from_ : HeldFrom) : Plate :=
  { p with state := .held, holdPending := false, holdReason := some reason, heldFrom := some from_ }

/-- A plate's record with a mark set (R6). -/
def Plate.mark (p : Plate) (m : Mark) : Plate := { p with marks := p.marks.add m }

/-- A plate becomes HELD at the end, abort, fault or undoing of a station step: PLATE_HELD goes to P and to the
station's port (R12). -/
def State.holdAtStep (s : State) (i : Slot) (reason : HoldReason) (from_ : HeldFrom) (station : Port) : State :=
  ((s.modPlate i (fun p => p.heldFor reason from_)).post .P ⟨.plateHeld, some i, reason.code⟩).post station
    ⟨.plateHeld, some i, reason.code⟩

/-- A plate's record with dose added to the delivered field of a phase (R4). -/
def Plate.addDose (p : Plate) (ph : Phase) (amount : Nat) : Plate :=
  match ph with
  | .back => { p with backDelivered := doseAdd p.backDelivered amount }
  | .face => { p with faceDelivered := doseAdd p.faceDelivered amount }
  | .detack => { p with detackDelivered := doseAdd p.detackDelivered amount }
  | .post => { p with postDelivered := doseAdd p.postDelivered amount }

/-- A drawer references a slot (R143). -/
def State.referenced (s : State) (i : Slot) : Bool := s.drawers.toList.any (fun d => d.slot == some i)

/-! ### The arbiter (R18, R19) -/

/-- A port has a command waiting at the arbiter (R18). -/
def PortRec.isWaiting (q : PortRec) : Bool :=
  match q.frame with
  | .waiting _ => true
  | .idle => false
  | .receiving _ => false
  | .answering _ _ _ => false

/-- The port the arbiter grants next: the first from the pointer on, round the cycle, with a command waiting (R19). -/
def State.arbiterChoice (s : State) : Option Port := (arbiterCycle s.pointer).find? (fun p => (s.port p).isWaiting)

/-- The arbiter can grant, and what it grants next is this command of this port. -/
def State.grants (s : State) (p : Port) (bytes : List Byte) : Bool :=
  !s.rstLow && s.arbiterChoice == some p && (s.port p).frame == .waiting bytes

/-- A port's frame with a reply formed: the byte then under way is still filler, and the reply begins at the next whole
byte (R177, 11.8.1; log entry 4). -/
def replyFrame (r : Reply) (acted : Bool) : Frame := .answering 1 r.bytes acted

/-- The end of a grant: the reply is made ready and the pointer moves to the port after the one granted (R19). -/
def State.endGrant (s : State) (p : Port) (r : Reply) : State :=
  { s.modPort p (fun q => { q with frame := replyFrame r true }) with pointer := p.next }

/-- A row that is the grant of a command: where the arbiter grants that command of that port next, the command takes
effect whole and its reply is made ready (R19); where it does not, there is no such event and nothing changes (log
entry 2). -/
def grant (p : Port) (bytes : List Byte) (effect : State → State × Reply) (s : State) : State :=
  if s.grants p bytes then (effect s).1.endGrant p (effect s).2 else s

/-- An internal completion or a pin event: nothing happens while RST is low (R182). -/
def whileUp (f : State → State) (s : State) : State := if s.rstLow then s else f s

/-- A refusal: the result alone, and no effect. -/
def refuse (r : Result) (s : State) : State × Reply := (s, Reply.just r)

end Sys2Proof.Machine
end

