-- ==== Sys2Proof/Machine/Table.lean ====
section
/-! DEFINITION. The Plate Table and the Type Table: HOLD, RELEASE, SCRAP, PURGE, READ_PLATE, WRITE_TYPE and READ_TYPE
(chapters 1 and 2). -/

namespace Sys2Proof.Machine

/-- A command that names a slot and does not allow "next": BAD_SLOT above 63, before anything else (R1). -/
def viaSlot (b : Byte) (act : State → Slot → State × Reply) (s : State) : State × Reply :=
  match namedSlot b with
  | some i => act s i
  | none => refuse .badSlot s

/-! ### HOLD, RELEASE, SCRAP, PURGE -/

/-- HOLD of a plate (R8, R9). -/
def holdPlate (s : State) (i : Slot) : State × Reply :=
  match (s.plate i).state.asHeldFrom with
  | some from_ => ((s.leaveOwnList i).modPlate i (fun p => p.heldFor .operator from_), Reply.just .ok)
  | none =>
    if (s.plate i).state.isActive then (s.modPlate i (fun p => { p with holdPending := true }), Reply.just .ok)
    else refuse .badState s

/-- HOLD. -/
def execHold (slot : Byte) (s : State) : Host.Outcome State Fault Refusal :=
  .next (grant .P (frameBytes (.hold slot)) (viaSlot slot holdPlate) s)

/-- A plate's record released to a state (R13). -/
def Plate.released (p : Plate) (st : PlateState) : Plate := { p with state := st, holdReason := none, heldFrom := none }

/-- A released plate joins the list of its destination: the tail of its class, or the tail of the list; DONE is in no
list (R13). -/
def State.joinReleased (s : State) (i : Slot) (dest : HeldFrom) : State :=
  match dest with
  | .staged => s.fillList .exposure (s.atClassTail s.exposureQ i)
  | .exposed => s.joinTail .wash i
  | .washed => s.joinTail .dryer i
  | .dried => s.joinTail .finisher i
  | .done => s

/-- RELEASE of a plate (R13, R14). -/
def releasePlate (s : State) (i : Slot) : State × Reply :=
  match (s.plate i).state, (s.plate i).heldFrom with
  | .held, some dest => ((s.modPlate i (fun p => p.released dest.state)).joinReleased i dest, Reply.just .ok)
  | _, _ =>
    if (s.plate i).holdPending && (s.plate i).state != .held then
      (s.modPlate i (fun p => { p with holdPending := false }), Reply.just .ok)
    else refuse .badState s

/-- RELEASE. -/
def execRelease (slot : Byte) (s : State) : Host.Outcome State Fault Refusal :=
  .next (grant .P (frameBytes (.release slot)) (viaSlot slot releasePlate) s)

/-- SCRAP of a plate (R15). -/
def scrapPlate (s : State) (i : Slot) : State × Reply :=
  if (s.plate i).state.isWaiting || (s.plate i).state == .held then
    ((s.leaveOwnList i).modPlate i (fun p => p.released .scrapped), Reply.just .ok)
  else if (s.plate i).state.isActive then refuse .plateActive s
  else refuse .badState s

/-- SCRAP. -/
def execScrap (slot : Byte) (s : State) : Host.Outcome State Fault Refusal :=
  .next (grant .P (frameBytes (.scrap slot)) (viaSlot slot scrapPlate) s)

/-- PURGE of a plate (R16); the event queues are left as they are (R17). -/
def purgePlate (s : State) (i : Slot) : State × Reply :=
  if (s.plate i).state == .done || (s.plate i).state == .scrapped then
    if s.referenced i then refuse .plateActive s
    else (s.modPlate i (fun _ => Plate.cleared), Reply.just .ok)
  else refuse .badState s

/-- PURGE. -/
def execPurge (slot : Byte) (s : State) : Host.Outcome State Fault Refusal :=
  .next (grant .P (frameBytes (.purge slot)) (viaSlot slot purgePlate) s)

/-! ### READ_PLATE -/

/-- The back estimate of a plate from the BACK bank's reference irradiance (R45). -/
def State.backEstimate (s : State) (i : Slot) : Option Nat :=
  estimate (s.bank .back).ref (phaseNeed (s.plate i).backTarget (s.plate i).backDelivered)

/-- The face estimate of a plate from the FACE bank's reference irradiance (R45). -/
def State.faceEstimate (s : State) (i : Slot) : Option Nat :=
  estimate (s.bank .face).ref (phaseNeed (s.plate i).faceTarget (s.plate i).faceDelivered)

/-- The total estimate of a plate (R46). -/
def State.plateEstimate (s : State) (i : Slot) : Option Nat := totalEstimate (s.backEstimate i) (s.faceEstimate i)

/-- An estimate in the reply: four bytes, 0xFFFFFFFF when absent, and absent for a FREE slot (R24, 1.6.1). -/
def estimateBytes (p : Plate) (est : Option Nat) : List Byte :=
  beBytes 4 (if p.state = .free then 0xFFFFFFFF else est.getD 0xFFFFFFFF)

/-- The flags byte of the reply: bit 0 rush, bit 1 hold_pending, bit 2 mass_counted (1.6.1). -/
def Plate.flagByte (p : Plate) : Byte := byte1 (flagBits [p.rush, p.holdPending, p.massCounted])

/-- The seventy data bytes of the plate record reply, in the order of 1.6.1. -/
def State.plateBytes (s : State) (i : Slot) : List Byte :=
  let p := s.plate i
  [byte1 p.state.code, byte1 p.typeIx.val] ++ beBytes 2 p.lot ++ [byte1 p.copy, p.flagByte]
    ++ beBytes 2 p.width ++ beBytes 2 p.length ++ [byte1 p.nonimage, BitVec.ofInt 8 p.trim]
    ++ beBytes 2 p.relief ++ beBytes 2 p.floor ++ beBytes 2 p.backTarget ++ beBytes 2 p.faceTarget
    ++ beBytes 6 p.backDelivered ++ beBytes 6 p.faceDelivered ++ beBytes 6 p.detackDelivered
    ++ beBytes 6 p.postDelivered
    ++ [codeOrFF (p.lane.map LanePlace.code)] ++ beBytes 2 (p.speed.getD 0)
    ++ beBytes 4 p.mass ++ beBytes 2 p.dryRemaining
    ++ [codeOrFF (p.drawer.map (fun d => d.val)), codeOrFF (p.holdReason.map HoldReason.code),
        codeOrFF (p.heldFrom.map (fun h => h.state.code))]
    ++ beBytes 2 p.marks.bits
    ++ estimateBytes p (s.backEstimate i) ++ estimateBytes p (s.faceEstimate i) ++ estimateBytes p (s.plateEstimate i)

/-- READ_PLATE when granted (R24). -/
def readPlateEffect (s : State) (i : Slot) : State × Reply := (s, ⟨.ok, s.plateBytes i⟩)

/-- READ_PLATE. -/
def execReadPlate (p : Port) (slot : Byte) (s : State) : Host.Outcome State Fault Refusal :=
  .next (grant p (frameBytes (.readPlate p slot)) (viaSlot slot readPlateEffect) s)

/-! ### The Type Table -/

/-- A type is in use while a plate that may still need it names it (R32). -/
def State.typeInUse (s : State) (t : Fin 16) : Bool :=
  s.plates.toList.any (fun p => p.state.usesType && p.typeIx == t)

/-- A floor-curve point as the numbers it stands for. -/
def curvePoint (pt : PointImage) : CurvePoint := ⟨pt.dose.toNat, pt.floor.toNat⟩

end Sys2Proof.Machine

namespace Sys2Proof

open Machine (CurvePoint TypeRec curvePoint)

/-- The floor curve of a WRITE_TYPE, as sent (R33). -/
def TypeImage.curve (t : TypeImage) : Vector CurvePoint 6 :=
  #v[curvePoint t.curve0, curvePoint t.curve1, curvePoint t.curve2, curvePoint t.curve3, curvePoint t.curve4,
    curvePoint t.curve5]

/-- The record a WRITE_TYPE would store before any clamp. -/
def TypeImage.unclamped (t : TypeImage) : TypeRec where
  valid := true
  thickness := t.thickness.toNat
  curve := t.curve
  faceDose := t.faceDose.toNat
  backMaxS := t.backMaxS.toNat
  faceMaxS := t.faceMaxS.toNat
  rateFresh := t.rateFresh.toNat
  sens := t.sens.toNat
  density := t.density.toNat
  dryBase := t.dryBase.toNat
  drySlope := t.drySlope.toNat
  detackDose := t.detackDose.toNat
  postDose := t.postDose.toNat
  detackMaxS := t.detackMaxS.toNat
  postMaxS := t.postMaxS.toNat

end Sys2Proof

namespace Sys2Proof.Machine

/-- Each point climbs in dose and in floor (R30). -/
def climbs : List CurvePoint → Bool
  | a :: b :: rest => decide (a.dose < b.dose) && decide (a.floor < b.floor) && climbs (b :: rest)
  | [_] => true
  | [] => true

/-- The curve of a WRITE_TYPE is accepted: no dose is 0, both figures climb, and every floor is below the thickness
(R30). -/
def curveOk (thickness : Nat) (curve : Vector CurvePoint 6) : Bool :=
  curve.toList.all (fun pt => decide (1 ≤ pt.dose) && decide (pt.dose ≤ 65535) && decide (pt.floor < thickness))
    && climbs curve.toList

/-- A thickness within 76 to 700 hundredths (R29). -/
def thicknessOk (thickness : Nat) : Bool := decide (76 ≤ thickness) && decide (thickness ≤ 700)

/-- A record with each field but thickness and curve brought into its range (R33). -/
def TypeRec.clamped (r : TypeRec) : TypeRec :=
  { r with
    faceDose := clampTo 1 65535 r.faceDose
    backMaxS := clampTo 1 65535 r.backMaxS
    faceMaxS := clampTo 1 65535 r.faceMaxS
    rateFresh := clampTo 10 1000 r.rateFresh
    sens := clampTo 0 100 r.sens
    density := clampTo 500 2000 r.density
    dryBase := clampTo 0 480 r.dryBase
    drySlope := clampTo 0 100 r.drySlope
    detackDose := clampTo 1 65535 r.detackDose
    postDose := clampTo 1 65535 r.postDose
    detackMaxS := clampTo 1 65535 r.detackMaxS
    postMaxS := clampTo 1 65535 r.postMaxS }

/-- WRITE_TYPE when granted, step by step (R31). -/
def writeTypeEffect (ix : Byte) (image : TypeImage) (s : State) : State × Reply :=
  match namedType ix with
  | none => refuse .badParam s
  | some t =>
    if image.valid != 0 && image.valid != 1 then refuse .badParam s
    else if s.typeInUse t then refuse .typeInUse s
    else if image.valid == 0 then (s.setType t TypeRec.cleared, Reply.just .ok)
    else if !thicknessOk image.thickness.toNat then refuse .badCurve s
    else if !curveOk image.thickness.toNat image.curve then refuse .badCurve s
    else (s.setType t image.unclamped.clamped, Reply.just (okOrClamped (image.unclamped.clamped != image.unclamped)))

/-- WRITE_TYPE. -/
def execWriteType (ix : Byte) (image : TypeImage) (s : State) : Host.Outcome State Fault Refusal :=
  .next (grant .P (frameBytes (.writeType ix image)) (writeTypeEffect ix image) s)

/-- The forty-nine bytes of a stored type record (2.4.1). -/
def TypeRec.bytes (r : TypeRec) : List Byte :=
  [Machine.flagByte r.valid] ++ beBytes 2 r.thickness
    ++ r.curve.toList.flatMap (fun pt => beBytes 2 pt.dose ++ beBytes 2 pt.floor)
    ++ beBytes 2 r.faceDose ++ beBytes 2 r.backMaxS ++ beBytes 2 r.faceMaxS ++ beBytes 2 r.rateFresh
    ++ [byte1 r.sens] ++ beBytes 2 r.density ++ beBytes 2 r.dryBase ++ [byte1 r.drySlope]
    ++ beBytes 2 r.detackDose ++ beBytes 2 r.postDose ++ beBytes 2 r.detackMaxS ++ beBytes 2 r.postMaxS

/-- READ_TYPE when granted (R36). -/
def readTypeEffect (ix : Byte) (s : State) : State × Reply :=
  match namedType ix with
  | none => refuse .badParam s
  | some t => (s, ⟨.ok, (s.typeRec t).bytes⟩)

/-- READ_TYPE. -/
def execReadType (ix : Byte) (s : State) : Host.Outcome State Fault Refusal :=
  .next (grant .P (frameBytes (.readType ix)) (readTypeEffect ix) s)

end Sys2Proof.Machine
end

