-- ==== Sys2Proof/Machine/Dryer.lean ====
section
/-! DEFINITION. The Drawer Unit: DRAWER_LOAD, DRAWER_OPEN, DRAWER_CLOSE, DRAWER_UNLOAD, the dry timer's expiry, and the
second-by-second decrement of every timer (chapter 8, R95, R125, R144). -/

namespace Sys2Proof.Machine

/-- A command that names a drawer: BAD_PARAM above 3 (R145, R147, R148, R150). -/
def viaDrawer (b : Byte) (act : State → DrawerIx → State × Reply) (s : State) : State × Reply :=
  match namedDrawer b with
  | some d => act s d
  | none => refuse .badParam s

/-! ### DRAWER_LOAD (R145, R146) -/

/-- A washed plate is put in an empty drawer, whose timer starts with the plate's dry_remaining (R146). -/
def State.loadDrawer (s : State) (d : DrawerIx) (i : Slot) : State × Reply :=
  (((s.leaveList .dryer i).modPlate i (fun p => { p with state := .drying, drawer := some d })).modDrawer d
      (fun _ => ⟨.drying, some i, (s.plate i).dryRemaining⟩),
    ⟨.ok, slotByte (some i) :: beBytes 2 (s.plate i).dryRemaining⟩)

/-- DRAWER_LOAD of a drawer (R145, R146). -/
def drawerLoadAt (code : Byte) (s : State) (d : DrawerIx) : State × Reply :=
  match slotCode code with
  | .bad => refuse .badSlot s
  | .next =>
    if (s.drawer d).state != .empty then refuse .drawerBusy s
    else
      match s.dryerQ with
      | [] => refuse .queueEmpty s
      | i :: _ => s.loadDrawer d i
  | .named i =>
    if (s.drawer d).state != .empty then refuse .drawerBusy s
    else if (s.plate i).state != .washed then refuse .badState s
    else s.loadDrawer d i

/-- DRAWER_LOAD. -/
def execDrawerLoad (drawer code : Byte) (s : State) : Host.Outcome State Fault Refusal :=
  .next (grant .D (frameBytes (.drawerLoad drawer code)) (viaDrawer drawer (drawerLoadAt code)) s)

/-! ### DRAWER_OPEN and DRAWER_CLOSE (R147, R148) -/

/-- DRAWER_OPEN of a drawer (R147). -/
def drawerOpenAt (s : State) (d : DrawerIx) : State × Reply :=
  match (s.drawer d).state with
  | .drying => (s.modDrawer d (fun k => { k with state := .opened }), Reply.just .ok)
  | .opened => (s, Reply.just .ok)
  | .dry => (s, Reply.just .ok)
  | .empty => refuse .drawerEmpty s

/-- DRAWER_OPEN. -/
def execDrawerOpen (drawer : Byte) (s : State) : Host.Outcome State Fault Refusal :=
  .next (grant .D (frameBytes (.drawerOpen drawer)) (viaDrawer drawer drawerOpenAt) s)

/-- DRAWER_CLOSE of a drawer (R148). -/
def drawerCloseAt (s : State) (d : DrawerIx) : State × Reply :=
  match (s.drawer d).state with
  | .opened => (s.modDrawer d (fun k => { k with state := .drying }), Reply.just .ok)
  | .empty => (s, Reply.just .ok)
  | .drying => (s, Reply.just .ok)
  | .dry => (s, Reply.just .ok)

/-- DRAWER_CLOSE. -/
def execDrawerClose (drawer : Byte) (s : State) : Host.Outcome State Fault Refusal :=
  .next (grant .D (frameBytes (.drawerClose drawer)) (viaDrawer drawer drawerCloseAt) s)

/-! ### DRAWER_UNLOAD (R150) -/

/-- A drawer stops referencing its plate: EMPTY, no slot, remaining 0, and the plate's drawer field absent (R3, R143). -/
def State.emptyDrawer (s : State) (d : DrawerIx) (i : Slot) : State :=
  (s.modPlate i (fun p => { p with drawer := none })).modDrawer d (fun _ => {})

/-- The plate of a drawer is taken out: a dry plate as it is, a wet one HELD with the time it still owes (R150). -/
def State.unloadDrawer (s : State) (d : DrawerIx) (i : Slot) : State :=
  match (s.drawer d).state with
  | .dry => s.emptyDrawer d i
  | .drying =>
    ((s.modPlate i (fun p => { p with dryRemaining := (s.drawer d).remaining })).emptyDrawer d i).holdAtStep i .wetRemoved
      .washed .D
  | .opened =>
    ((s.modPlate i (fun p => { p with dryRemaining := (s.drawer d).remaining })).emptyDrawer d i).holdAtStep i .wetRemoved
      .washed .D
  | .empty => s

/-- DRAWER_UNLOAD of a drawer (R150). -/
def drawerUnloadAt (s : State) (d : DrawerIx) : State × Reply :=
  match (s.drawer d).state, (s.drawer d).slot with
  | .empty, _ => refuse .drawerEmpty s
  | _, none => refuse .drawerEmpty s
  | _, some i => (s.unloadDrawer d i, ⟨.ok, [slotByte (some i), byte1 ((s.unloadDrawer d i).plate i).state.code]⟩)

/-- DRAWER_UNLOAD. -/
def execDrawerUnload (drawer : Byte) (s : State) : Host.Outcome State Fault Refusal :=
  .next (grant .D (frameBytes (.drawerUnload drawer)) (viaDrawer drawer drawerUnloadAt) s)

/-! ### The end of drying (R149) -/

/-- The drying step of a plate ends: HELD by a pending hold, else DRIED at the tail of the finisher wait list (R10,
R149). -/
def State.endDrying (s : State) (i : Slot) : State :=
  if (s.plate i).holdPending then s.holdAtStep i .operator .dried .D
  else (s.modPlate i (fun p => p.inState .dried)).joinTail .finisher i

/-- A drawer's timer expires: DRY, the plate's dry_remaining 0, DRAWER_DRY, and then the plate's destination (R149). -/
def State.dryExpiry (s : State) (d : DrawerIx) : State :=
  match (s.drawer d).state, (s.drawer d).slot with
  | .drying, some i =>
    if (s.drawer d).remaining ≤ 1 then
      State.endDrying
        (((s.modDrawer d (fun k => { k with state := .dry, remaining := 0 })).modPlate i
          (fun p => { p with dryRemaining := 0 })).post .D ⟨.drawerDry, some i, d.val⟩) i
    else s
  | _, _ => s

/-- DRY_TIMER_EXPIRY (R149). -/
def execDryTimerExpiry (d : DrawerIx) (s : State) : Host.Outcome State Fault Refusal :=
  .next (whileUp (fun s => s.dryExpiry d) s)

/-! ### The decrements (R95, R125, R144) -/

/-- A transit entry counts a second, short of the one that brings it to 0 (R125). -/
def TransitEntry.tick (e : TransitEntry) (i : Slot) : TransitEntry :=
  if e.slot = i ∧ e.expired = false ∧ 1 < e.remaining then { e with remaining := e.remaining - 1 } else e

/-- A second passes at a timer: a warm timer counts while its bank is WARMING (R95), a drawer's while the drawer is
DRYING (R144), an overdue timer while it has not expired (R125). The decrement that brings a timer to 0 is its expiry. -/
def State.decrement (s : State) : Timer → State
  | .warm b =>
    if (s.bank b).state = .warming ∧ 1 < (s.bank b).warm then s.modBank b (fun k => { k with warm := k.warm - 1 }) else s
  | .drawer d =>
    if (s.drawer d).state = .drying ∧ 1 < (s.drawer d).remaining then
      s.modDrawer d (fun k => { k with remaining := k.remaining - 1 })
    else s
  | .overdue i => { s with transit := s.transit.map (fun e => e.tick i) }

/-- TIMER_DECREMENT (R144). -/
def execTimerDecrement (timer : Timer) (s : State) : Host.Outcome State Fault Refusal :=
  .next (whileUp (fun s => s.decrement timer) s)

end Sys2Proof.Machine
end

