-- ==== Sys2Proof/Machine/Light.lean ====
section
/-! DEFINITION. The Light Integrator, the Sensor Link, and the ends of channels that the Frame Unit and the Finisher Unit
watch (chapter 6, R82, R83, R86, R158), with the rows SAMPLE_DUE, SENSOR_READ_START and SENSOR_READ_COMPLETE. -/

namespace Sys2Proof.Machine

/-! ### Channels and their reads -/

/-- The length in milliseconds of an interval that begins now (R105). -/
def State.intervalNow (s : State) : Nat := 10 * s.item .sampleDiv

/-- A channel is RUNNING or PAUSED (R82). -/
def State.chanActive (s : State) (c : Chan) : Bool := (s.chan c).state.isActive

/-- The transaction on the link belongs to a channel (R107). -/
def State.linkCarries (s : State) (c : Chan) : Bool :=
  match s.link.busy with
  | some r => r.chan == c
  | none => false

/-- The due list without a channel's request, and a transaction of that channel on the link no longer to be credited
(R106). -/
def Link.drop (k : Link) (c : Chan) : Link :=
  { k with
    due := k.due.set c.index none
    busy := k.busy.map (fun r => if r.chan = c then { r with live := false } else r) }

/-- A channel leaves RUNNING: its request is withdrawn from the due list, or its reading will be discarded when the
transaction under way ends (R106). The read outstanding flag is cleared when the request is withdrawn; for a transaction
on the link it is cleared when the reading is discarded. -/
def State.withdraw (s : State) (c : Chan) : State :=
  State.modChan { s with link := s.link.drop c } c
    (fun k => { k with readOutstanding := s.linkCarries c && k.readOutstanding })

/-- The lower-numbered of two channels. -/
def lowerChan (c d : Chan) : Chan := if d.index < c.index then d else c

/-- The higher-numbered of two channels. -/
def higherChan (c d : Chan) : Chan := if d.index < c.index then c else d

/-- A channel and, for a wide pair, its partner (R50). -/
def State.runOf (s : State) (c : Chan) : List Chan :=
  match (s.chan c).partner with
  | some d => [c, d]
  | none => [c]

/-- The accumulator a run is judged by: of a pair, the smaller (R50, R113). -/
def State.runAccumulator (s : State) (c : Chan) : Nat :=
  match (s.chan c).partner with
  | some d => min (s.chan c).accumulator (s.chan d).accumulator
  | none => (s.chan c).accumulator

/-- The elapsed time a run is judged by: of a pair, the smaller (R50, R113). -/
def State.runElapsed (s : State) (c : Chan) : Nat :=
  match (s.chan c).partner with
  | some d => min (s.chan c).elapsed (s.chan d).elapsed
  | none => (s.chan c).elapsed

/-- The elapsed time the reference irradiance is formed with: of a pair, that of the channel that holds the smaller
accumulator, and of the lower-numbered channel when the two are equal (R114). -/
def State.refElapsed (s : State) (c : Chan) : Nat :=
  match (s.chan c).partner with
  | some d =>
    if (s.chan (higherChan c d)).accumulator < (s.chan (lowerChan c d)).accumulator
    then (s.chan (higherChan c d)).elapsed else (s.chan (lowerChan c d)).elapsed
  | none => (s.chan c).elapsed

/-- The channel a REACHED or TIME_LIMIT stop is reported under: of a pair, the lower-numbered (R115). -/
def State.reportedChan (s : State) (c : Chan) : Chan :=
  match (s.chan c).partner with
  | some d => lowerChan c d
  | none => c

/-- A channel STOPPED with a result; its interval is over and its read is withdrawn (R114, R118). -/
def State.stopChan (s : State) (res : StopResult) (c : Chan) : State :=
  (s.withdraw c).modChan c (fun k => { k with state := .stopped, result := some res, interval := none })

/-- A channel FAILED (R112). -/
def State.failChan (s : State) (c : Chan) : State :=
  (s.withdraw c).modChan c (fun k => { k with state := .failed, interval := none })

/-- Dose added to the delivered field of a channel's plate, for the channel's phase (R4). -/
def State.deliver (s : State) (c : Chan) (amount : Nat) : State :=
  s.modPlate? (s.chan c).slot (fun p => p.addDose c.phase amount)

/-- A mark set on a channel's plate (R6). -/
def State.markPlate (s : State) (c : Chan) (m : Mark) : State := s.modPlate? (s.chan c).slot (fun p => p.mark m)

/-- CHANNEL_STOP of a channel (R115). -/
def State.postStop (s : State) (c : Chan) (code : Nat) : State :=
  s.post c.port ⟨.channelStop, (s.chan c).slot, code * 16 + c.index⟩

/-- The bank's reference irradiance learnt from a REACHED stop, when elapsed is greater than 0 (R51, R99). -/
def State.learnReference (s : State) (b : Bank) (accumulator elapsed : Nat) : State :=
  if 0 < elapsed then s.modBank b (fun k => { k with ref := some (referenceOf accumulator elapsed) }) else s

/-! ### What the owning block notes of an end (R82, R158) -/

/-- A TIME_LIMIT end sets the short mark of the channel's lane or of the finisher position (R82, R158). -/
def State.noteShort (s : State) (c : Chan) : State :=
  match c.lane with
  | some l => { s with frame := s.frame.modLane l (fun x => { x with short := true }) }
  | none => { s with finisher := { s.finisher with short := true } }

/-- A failure sets the failure mark of the channel's lane or of the finisher position (R82, R158). -/
def State.noteFailure (s : State) (c : Chan) : State :=
  match c.lane with
  | some l => { s with frame := s.frame.modLane l (fun x => { x with failure := true }) }
  | none => { s with finisher := { s.finisher with failure := true } }

/-- PHASE_END of the frame, with the slot of the plate on lane A (R83, R86). -/
def State.postFramePhaseEnd (s : State) (param : Nat) : State :=
  s.post .E ⟨.phaseEnd, s.frame.laneA.slot, param⟩

/-- The frame phase ends when no channel it started is still RUNNING or PAUSED (R83, R86). -/
def State.checkFramePhase (s : State) : State :=
  match s.frame.state with
  | .backRun =>
    if s.chanActive .backA || s.chanActive .backB then s else (s.setFrameState .backEnd).postFramePhaseEnd 0
  | .faceRun =>
    if s.chanActive .faceA || s.chanActive .faceB then s else (s.setFrameState .faceEnd).postFramePhaseEnd 1
  | .empty => s
  | .loaded => s
  | .backEnd => s
  | .faceEnd => s

/-- The finishing run ends when neither channel is still RUNNING or PAUSED (R158). -/
def State.checkFinishPhase (s : State) : State :=
  match s.finisher.state with
  | .running =>
    if s.chanActive .detack || s.chanActive .post then s
    else State.post { s with finisher := { s.finisher with state := .ended } } .D ⟨.phaseEnd, s.finisher.slot, 2⟩
  | .empty => s
  | .loaded => s
  | .ended => s

/-- The owning block of a channel sees whether its phase is over. -/
def State.checkPhase (s : State) (c : Chan) : State :=
  match c.lane with
  | some _ => s.checkFramePhase
  | none => s.checkFinishPhase

/-! ### Stops, failures and aborts of a run -/

/-- A run stops REACHED (R114): the count is delivered, the bank learns its reference irradiance, CHANNEL_STOP is
posted. -/
def State.stopReached (s : State) (c : Chan) : State :=
  ((((s.runOf c).foldl (fun t d => t.stopChan .reached d) s).deliver c (s.runAccumulator c)).learnReference c.bank
    (s.runAccumulator c) (s.refElapsed c)).postStop (s.reportedChan c) StopResult.reached.code

/-- A run stops TIME_LIMIT (R114): the count is delivered, the plate is marked DOSE_SHORT, CHANNEL_STOP is posted, and
the owning block notes the short end of each channel. -/
def State.stopTimeLimit (s : State) (c : Chan) : State :=
  (s.runOf c).foldl State.noteShort
    (((((s.runOf c).foldl (fun t d => t.stopChan .timeLimit d) s).deliver c (s.runAccumulator c)).markPlate c
      .doseShort).postStop (s.reportedChan c) StopResult.timeLimit.code)

/-- A run fails at the third bad sample in a row of channel c (R112): the count is delivered, the plate is marked
SENSOR_FAIL, CHANNEL_STOP names c, and the owning block notes the failure of each channel. -/
def State.failRun (s : State) (c : Chan) : State :=
  (s.runOf c).foldl State.noteFailure
    (((((s.runOf c).foldl State.failChan s).deliver c (s.runAccumulator c)).markPlate c .sensorFail).postStop c
      failedCode)

/-- A run is aborted (R118): each of its channels that is RUNNING or PAUSED stops ABORTED, and the count is delivered;
a channel that has ended or was never started adds nothing. -/
def State.abortRun (s : State) (c : Chan) : State :=
  if s.chanActive c then
    ((s.runOf c).foldl (fun t d => t.stopChan .aborted d) s).deliver c (s.runAccumulator c)
  else s

/-- A channel returned to IDLE by its owning block (R119). -/
def State.idleChan (s : State) (c : Chan) : State := s.modChan c (fun _ => Channel.idle)

/-! ### Starting (R104) -/

/-- The record of a channel as it is started (R104). -/
def startedChannel (slot : Slot) (partner : Option Chan) (need : Int) (limit interval : Nat) : Channel :=
  { Channel.idle with
    state := if 0 < need then .running else .stopped
    result := if 0 < need then none else some .reached
    slot := some slot
    partner := partner
    need := if 0 < need then some need.toNat else none
    limit := some limit
    interval := if 0 < need then some interval else none }

/-- A channel that counts alone is started; with a need of 0 or less it stops REACHED at once (R104). -/
def State.startSingle (s : State) (c : Chan) (slot : Slot) (need : Int) (limit : Nat) : State :=
  let t := s.modChan c (fun _ => startedChannel slot none need limit s.intervalNow)
  if 0 < need then t else t.stopReached c

/-- A wide pair is started at the same moment; with a need of 0 or less it stops REACHED at once, both channels together
(R104). -/
def State.startPair (s : State) (c d : Chan) (slot : Slot) (need : Int) (limit : Nat) : State :=
  let t := (s.modChan c (fun _ => startedChannel slot (some d) need limit s.intervalNow)).modChan d
    (fun _ => startedChannel slot (some c) need limit s.intervalNow)
  if 0 < need then t else t.stopReached c

/-! ### Pausing and resuming (R116, R117) -/

/-- A RUNNING channel pauses: its interval is abandoned and its read withdrawn or discarded (R116). -/
def State.pauseChan (s : State) (c : Chan) : State :=
  if (s.chan c).state == .running then
    (s.withdraw c).modChan c (fun k => { k with state := .paused, interval := none })
  else s

/-- A PAUSED channel resumes with a fresh interval (R117). -/
def State.resumeChan (s : State) (c : Chan) : State :=
  if (s.chan c).state == .paused then
    s.modChan c (fun k => { k with state := .running, interval := some s.intervalNow })
  else s

/-! ### Sampling -/

/-- A sample falls due at a channel: its request joins the due list with the Ts of the interval that has ended, and the
next interval begins (R105, R106). -/
def State.fallDue (s : State) (c : Chan) : State :=
  State.modChan { s with link := { s.link with due := s.link.due.set c.index (s.chan c).interval } } c
    (fun k => { k with readOutstanding := true, interval := some s.intervalNow })

/-- A sample can fall due at a channel: it is RUNNING, and its previous read has ended, since every read ends before
its channel's next sample falls due (R106, R109). -/
def State.canFallDue (s : State) (c : Chan) : Bool :=
  (s.chan c).state == .running && !(s.chan c).readOutstanding && !s.linkCarries c

/-- SAMPLE_DUE: the interval of a RUNNING channel ends; of a wide pair, whose intervals keep in step, that of both
channels (R104 to R106). -/
def State.sampleDue (s : State) (c : Chan) : State :=
  if (s.runOf c).all s.canFallDue then (s.runOf c).foldl State.fallDue s else s

/-- SAMPLE_DUE (R106). -/
def execSampleDue (c : Chan) (s : State) : Host.Outcome State Fault Refusal := .next (whileUp (fun s => s.sampleDue c) s)

/-- The lowest-numbered channel with a request in the due list, and the request (R107). -/
def Link.nextDue (k : Link) : Option (Chan × Nat) :=
  allChans.findSome? (fun c => (k.due[c.index]).map (fun ts => (c, ts)))

/-- The idle link takes the request of the lowest-numbered channel and begins its transaction: the start condition and
the address byte go out (R107, R108). -/
def Link.begin (k : Link) : Link :=
  match k.busy with
  | some _ => k
  | none =>
    match k.nextDue with
    | some (c, ts) => ⟨some ⟨c, ts, true⟩, k.due.set c.index none, wireHead c.sensorAddress⟩
    | none => k

/-- SENSOR_READ_START (R107). -/
def execSensorReadStart (s : State) : Host.Outcome State Fault Refusal :=
  .next (whileUp (fun s => { s with link := s.link.begin }) s)

/-- The tests after a credited sample (R113): REACHED first, then TIME_LIMIT, on the figures of the channel or the
pair; then the owning block sees whether its phase is over. -/
def State.testRun (s : State) (c : Chan) : State :=
  if (s.chan c).need.getD 0 ≤ s.runAccumulator c then (s.stopReached c).checkPhase c
  else if (s.chan c).limit.getD 0 ≤ s.runElapsed c then (s.stopTimeLimit c).checkPhase c
  else s

/-- A reading credited to a channel for an interval (R48), and the tests that follow. -/
def State.creditSample (s : State) (c : Chan) (reading ts : Nat) : State :=
  (s.modChan c (fun k =>
    { k with accumulator := doseAdd k.accumulator (reading * ts), elapsed := k.elapsed + ts })).testRun c

/-- The top of a sensor's range (R110). -/
def sensorTop : Nat := 65535

/-- A good sample (R110). -/
def State.goodSample (s : State) (c : Chan) (reading ts : Nat) : State :=
  let t := s.modChan c (fun k => { k with lastGood := reading, badCount := 0 })
  (if reading = sensorTop then t.markPlate c .sensorSat else t).creditSample c reading ts

/-- A bad sample (R111): the last good reading stands in for the first two in a row; the third fails the run, and is
not credited. -/
def State.badSample (s : State) (c : Chan) (ts : Nat) : State :=
  let t := s.modChan c (fun k => { k with badCount := k.badCount + 1 })
  if (s.chan c).badCount < 2 then t.creditSample c (s.chan c).lastGood ts
  else (t.failRun c).checkPhase c

/-- The end of a transaction: the link is idle, its last bit times are on the wires, and the channel's read is no longer
outstanding (R106 to R108). -/
def State.endRead (s : State) (r : LinkRead) (answer : Option Word) : State :=
  State.modChan
    { s with link := { s.link with busy := none, wire := wireHead r.chan.sensorAddress ++ wireTail answer } } r.chan
    (fun k => { k with readOutstanding := false })

/-- The outcome of a transaction is credited to its channel, or discarded when the channel has left RUNNING since the
sample fell due (R106, R110, R111). -/
def State.creditRead (s : State) (r : LinkRead) (answer : Option Word) : State :=
  if r.live && (s.chan r.chan).state == .running then
    match answer with
    | some v => s.goodSample r.chan v.toNat r.ts
    | none => s.badSample r.chan r.ts
  else s

/-- The transaction on the link ends; with an idle link there is none to end. -/
def State.readComplete (s : State) (answer : Option Word) : State :=
  match s.link.busy with
  | some r => (s.endRead r answer).creditRead r answer
  | none => s

/-- SENSOR_READ_COMPLETE (R110 to R115). -/
def execSensorReadComplete (answer : Option Word) (s : State) : Host.Outcome State Fault Refusal :=
  .next (whileUp (fun s => s.readComplete answer) s)

end Sys2Proof.Machine
end

