-- ==== Sys2Proof/Machine/Finishing.lean ====
section
/-! DEFINITION. The Finisher Unit: FINISH_LOAD, FINISH_START, FINISH_UNLOAD and FINISH_ABORT (chapter 9). -/

namespace Sys2Proof.Machine

/-! ### FINISH_LOAD (R151, R156) -/

/-- The DRY drawer that references a plate (R151). -/
def State.dryDrawerOf (s : State) (i : Slot) : Option DrawerIx :=
  (List.finRange 4).find? (fun d => (s.drawer d).state == .dry && (s.drawer d).slot == some i)

/-- The drawer a plate is taken from is emptied, if there is one (R151). -/
def State.clearReference (s : State) (i : Slot) : State :=
  match s.dryDrawerOf i with
  | some d => s.emptyDrawer d i
  | none => s

/-- A dried plate is put in the finisher position (R156). -/
def State.loadFinisher (s : State) (i : Slot) : State × Reply :=
  ({ ((s.leaveList .finisher i).clearReference i).modPlate i (fun p => p.inState .finishing) with
      finisher := { state := .loaded, slot := some i } },
    ⟨.ok, [slotByte (some i), codeOrFF ((s.dryDrawerOf i).map (fun d => d.val))]⟩)

/-- FINISH_LOAD when granted (R156). -/
def finishLoadEffect (code : Byte) (s : State) : State × Reply :=
  match slotCode code with
  | .bad => refuse .badSlot s
  | .next =>
    if s.finisher.state != .empty then refuse .busy s
    else
      match s.finisherQ with
      | [] => refuse .queueEmpty s
      | i :: _ => s.loadFinisher i
  | .named i =>
    if s.finisher.state != .empty then refuse .busy s
    else if (s.plate i).state != .dried then refuse .badState s
    else s.loadFinisher i

/-- FINISH_LOAD. -/
def execFinishLoad (code : Byte) (s : State) : Host.Outcome State Fault Refusal :=
  .next (grant .D (frameBytes (.finishLoad code)) (finishLoadEffect code) s)

/-! ### FINISH_START (R157, R158) -/

/-- The need of a plate's detack phase (R44). -/
def State.detackNeed (s : State) (i : Slot) : Int := phaseNeed (s.plateType i).detackDose (s.plate i).detackDelivered

/-- The need of a plate's post phase (R44). -/
def State.postNeed (s : State) (i : Slot) : Int := phaseNeed (s.plateType i).postDose (s.plate i).postDelivered

/-- Both finishing channels are started for the plate in the position, DETACK and then POST; they are no pair (R157). -/
def State.startFinishing (s : State) : State :=
  match s.finisher.slot with
  | some i =>
    (s.startSingle .detack i (s.detackNeed i) ((s.plateType i).detackMaxS * 1000)).startSingle .post i (s.postNeed i)
      ((s.plateType i).postMaxS * 1000)
  | none => s

/-- FINISH_START when granted (R157, R158). -/
def finishStartEffect (s : State) : State × Reply :=
  if s.finisher.state != .loaded then refuse .badState s
  else if (s.bank .detack).state != .ready || (s.bank .post).state != .ready then refuse .bankNotReady s
  else
    ((State.startFinishing { s with finisher := { s.finisher with state := .running } }).checkFinishPhase,
      Reply.just .ok)

/-- FINISH_START. -/
def execFinishStart (s : State) : Host.Outcome State Fault Refusal :=
  .next (grant .D (frameBytes .finishStart) finishStartEffect s)

/-! ### FINISH_UNLOAD (R159) -/

/-- The finished plate is settled by the first that applies of the run's failure mark, its short mark and a pending hold
(R10, R159). -/
def State.settleFinished (s : State) (i : Slot) : State :=
  if s.finisher.failure then s.holdAtStep i .sensor .dried .D
  else if s.finisher.short then s.holdAtStep i .doseShort .done .D
  else if (s.plate i).holdPending then s.holdAtStep i .operator .done .D
  else (s.modPlate i (fun p => p.inState .done)).post .P ⟨.plateDone, some i, 0⟩

/-- Both finishing channels return to IDLE and the position becomes EMPTY, its flags clear (R119, R159). -/
def State.clearFinisher (s : State) : State :=
  { (s.idleChan .detack).idleChan .post with finisher := {} }

/-- FINISH_UNLOAD when granted (R159). -/
def finishUnloadEffect (s : State) : State × Reply :=
  if s.finisher.state != .ended then refuse .badState s
  else
    match s.finisher.slot with
    | some i =>
      ((s.settleFinished i).clearFinisher, ⟨.ok, [byte1 ((s.settleFinished i).plate i).state.code]⟩)
    | none => (s.clearFinisher, ⟨.ok, [0xFF]⟩)

/-- FINISH_UNLOAD. -/
def execFinishUnload (s : State) : Host.Outcome State Fault Refusal :=
  .next (grant .D (frameBytes .finishUnload) finishUnloadEffect s)

/-! ### FINISH_ABORT (R160, R161) -/

/-- A LOADED position is undone: the plate returns to the head of the finisher wait list, or is HELD by a pending hold
(R11, R160). -/
def State.undoFinish (s : State) (i : Slot) : State :=
  if (s.plate i).holdPending then s.holdAtStep i .operator .dried .D
  else (s.modPlate i (fun p => p.inState .dried)).fillList .finisher (i :: s.finisherQ)

/-- A RUNNING position is broken off: its channels stop ABORTED, and the plate is HELD with reason ABORTED (R118,
R161). -/
def State.breakOffFinish (s : State) (i : Slot) : State :=
  ((s.abortRun .detack).abortRun .post).holdAtStep i .aborted .dried .D

/-- FINISH_ABORT when granted (R160, R161). -/
def finishAbortEffect (s : State) : State × Reply :=
  match s.finisher.state, s.finisher.slot with
  | .loaded, some i => ({ s.undoFinish i with finisher := {} }, Reply.just .ok)
  | .running, some i => ((s.breakOffFinish i).clearFinisher, Reply.just .ok)
  | _, _ => refuse .badState s

/-- FINISH_ABORT. -/
def execFinishAbort (s : State) : Host.Outcome State Fault Refusal :=
  .next (grant .D (frameBytes .finishAbort) finishAbortEffect s)

end Sys2Proof.Machine
end

