-- ==== Sys2Proof/Machine/FrameBed.lean ====
section
/-! DEFINITION. The Frame Unit and the Lamp Monitor: START_BACK, START_FACE, UNLOAD, FRAME_ABORT, BANK_ON, BANK_OFF and the
warm timer's expiry (chapter 5). -/

namespace Sys2Proof.Machine

/-! ### Phases -/

/-- The plate on the bed is wide: both lanes name it (R78). -/
def FrameUnit.isWide (u : FrameUnit) : Bool := u.laneA.slot.isSome && u.laneA.slot == u.laneB.slot

/-- The plates on the bed, lane A's first, a wide plate once (R87, R89, R90). -/
def FrameUnit.plates (u : FrameUnit) : List Slot :=
  if u.isWide then u.laneA.slot.toList else u.laneA.slot.toList ++ u.laneB.slot.toList

/-- The need of a plate's back phase (R44, R81). -/
def State.backNeed (s : State) (i : Slot) : Int := phaseNeed (s.plate i).backTarget (s.plate i).backDelivered

/-- The need of a plate's face phase (R44, R85). -/
def State.faceNeed (s : State) (i : Slot) : Int := phaseNeed (s.plate i).faceTarget (s.plate i).faceDelivered

/-- The back channel of a lane is started for the plate on it (R81). -/
def State.startBackLane (s : State) (c : Chan) (lane : Lane) : State :=
  match lane.slot with
  | some i => s.startSingle c i (s.backNeed i) ((s.plateType i).backMaxS * 1000)
  | none => s

/-- The face channel of a lane is started for the plate on it, unless the lane has a failure mark (R85). -/
def State.startFaceLane (s : State) (c : Chan) (lane : Lane) : State :=
  match lane.slot with
  | some i => if lane.failure then s else s.startSingle c i (s.faceNeed i) ((s.plateType i).faceMaxS * 1000)
  | none => s

/-- The back channels of the load are started: the pair for a wide plate, else lane A's and then lane B's (R81, log
entry 6). -/
def State.startBackChannels (s : State) : State :=
  if s.frame.isWide then
    match s.frame.laneA.slot with
    | some i => s.startPair .backA .backB i (s.backNeed i) ((s.plateType i).backMaxS * 1000)
    | none => s
  else (s.startBackLane .backA s.frame.laneA).startBackLane .backB s.frame.laneB

/-- The face channels of the load are started (R85). -/
def State.startFaceChannels (s : State) : State :=
  if s.frame.isWide then
    match s.frame.laneA.slot with
    | some i =>
      if s.frame.laneA.failure || s.frame.laneB.failure then s
      else s.startPair .faceA .faceB i (s.faceNeed i) ((s.plateType i).faceMaxS * 1000)
    | none => s
  else (s.startFaceLane .faceA s.frame.laneA).startFaceLane .faceB s.frame.laneB

/-- START_BACK when granted (R80, R81, R83). -/
def startBackEffect (s : State) : State × Reply :=
  if s.frame.state != .loaded then refuse .badState s
  else if (s.bank .back).state != .ready then refuse .bankNotReady s
  else ((s.setFrameState .backRun).startBackChannels.checkFramePhase, Reply.just .ok)

/-- START_BACK. -/
def execStartBack (s : State) : Host.Outcome State Fault Refusal :=
  .next (grant .E (frameBytes .startBack) startBackEffect s)

/-- START_FACE when granted (R84 to R86). -/
def startFaceEffect (s : State) : State × Reply :=
  if s.frame.state != .backEnd then refuse .badState s
  else if (s.bank .face).state != .ready then refuse .bankNotReady s
  else ((s.setFrameState .faceRun).startFaceChannels.checkFramePhase, Reply.just .ok)

/-- START_FACE. -/
def execStartFace (s : State) : Host.Outcome State Fault Refusal :=
  .next (grant .E (frameBytes .startFace) startFaceEffect s)

/-! ### Unloading (R87, R88) -/

/-- A plate's lane field becomes absent as it leaves the frame (R3). -/
def State.offLane (s : State) (i : Slot) : State := s.modPlate i (fun p => { p with lane := none })

/-- A plate leaves the bed at UNLOAD, by the first that applies of its lane's failure mark, its lane's short mark and its
pending hold (R87). -/
def State.settleUnloaded (s : State) (i : Slot) (lane : Lane) : State :=
  if lane.failure then (s.offLane i).holdAtStep i .sensor .staged .E
  else if lane.short then (s.offLane i).holdAtStep i .doseShort .exposed .E
  else if (s.plate i).holdPending then (s.offLane i).holdAtStep i .operator .exposed .E
  else ((s.offLane i).modPlate i (fun p => p.inState .exposed)).joinTail .wash i

/-- The plate of a lane is settled, if there is one. -/
def State.settleLane (s : State) (lane : Lane) : State :=
  match lane.slot with
  | some i => s.settleUnloaded i lane
  | none => s

/-- The four frame channels return to IDLE, both lane records are emptied and the frame is EMPTY (R88, R90). -/
def State.clearBed (s : State) : State :=
  { [Chan.backA, .backB, .faceA, .faceB].foldl State.idleChan s with frame := {} }

/-- The state code in the UNLOAD reply of the plate a lane held; 0xFF for no plate (R88). -/
def State.laneCode (s : State) (lane : Lane) : Byte :=
  match lane.slot with
  | some i => byte1 (s.plate i).state.code
  | none => 0xFF

/-- The lane B that UNLOAD settles: none beside a wide plate, which is settled once (R87). -/
def FrameUnit.unloadLaneB (u : FrameUnit) : Lane := if u.isWide then {} else u.laneB

/-- UNLOAD when granted (R87, R88). -/
def unloadEffect (s : State) : State × Reply :=
  if s.frame.state != .faceEnd then refuse .badState s
  else
    let t := (s.settleLane s.frame.laneA).settleLane s.frame.unloadLaneB
    (t.clearBed, ⟨.ok, [t.laneCode s.frame.laneA, t.laneCode s.frame.unloadLaneB]⟩)

/-- UNLOAD. -/
def execUnload (s : State) : Host.Outcome State Fault Refusal := .next (grant .E (frameBytes .unload) unloadEffect s)

/-! ### Aborting (R89 to R91) -/

/-- The place of a plate that returns to the exposure queue: directly behind lane A's plate when that has returned to the
same class, else the head of its own class (R63). -/
def State.returnedQueue (s : State) (ahead : Option Slot) (i : Slot) : List Slot :=
  match ahead with
  | some j => if (s.plate j).rush = (s.plate i).rush then placeBehind j i s.exposureQ else s.atClassHead s.exposureQ i
  | none => s.atClassHead s.exposureQ i

/-- A plate leaves a LOADED bed at FRAME_ABORT: back to the exposure queue, or HELD by a pending hold (R11, R89). -/
def State.undoLane (s : State) (ahead : Option Slot) (i : Slot) : State :=
  if (s.plate i).holdPending then (s.offLane i).holdAtStep i .operator .staged .E
  else
    let t := (s.offLane i).modPlate i (fun p => p.inState .staged)
    t.fillList .exposure (t.returnedQueue ahead i)

/-- FRAME_ABORT of a LOADED frame (R63, R89). -/
def State.undoLoad (s : State) : State :=
  match s.frame.plates with
  | [] => s
  | [i] => s.undoLane none i
  | i :: j :: _ => (s.undoLane none i).undoLane (if (s.plate i).holdPending then none else some i) j

/-- A plate of a load broken off is HELD with reason ABORTED (R90). -/
def State.holdAborted (s : State) (i : Slot) : State := (s.offLane i).holdAtStep i .aborted .staged .E

/-- FRAME_ABORT of a load whose exposure has begun (R90, R118). -/
def State.breakOffLoad (s : State) : State :=
  (s.frame.plates.foldl State.holdAborted
    ([Chan.backA, .backB, .faceA, .faceB].foldl State.abortRun s)).clearBed

/-- FRAME_ABORT when granted (R89 to R91). -/
def frameAbortEffect (s : State) : State × Reply :=
  match s.frame.state with
  | .loaded => ({ s.undoLoad with frame := {} }, Reply.just .ok)
  | .backRun => (s.breakOffLoad, Reply.just .ok)
  | .backEnd => (s.breakOffLoad, Reply.just .ok)
  | .faceRun => (s.breakOffLoad, Reply.just .ok)
  | .faceEnd => refuse .badState s
  | .empty => refuse .badState s

/-- FRAME_ABORT. -/
def execFrameAbort (s : State) : Host.Outcome State Fault Refusal :=
  .next (grant .E (frameBytes .frameAbort) frameAbortEffect s)

/-! ### Banks (R94 to R98) -/

/-- A bank becomes READY: BANK_READY goes to its owner and its PAUSED channels resume (R96, R117). -/
def State.bankBecomesReady (s : State) (b : Bank) : State :=
  b.chans.foldl State.resumeChan
    ((s.modBank b (fun k => { k with state := .ready, warm := 0 })).post b.owner ⟨.bankReady, none, b.index⟩)

/-- BANK_ON of a bank of the port (R95). -/
def State.bankOn (s : State) (b : Bank) : State :=
  match (s.bank b).state with
  | .off =>
    if s.item b.warmItem = 0 then s.bankBecomesReady b
    else s.modBank b (fun k => { k with state := .warming, warm := s.item b.warmItem })
  | .warming => s
  | .ready => s

/-- BANK_OFF of a bank of the port: OFF from any state, its warm timer cancelled, its RUNNING channels PAUSED (R97,
R116). -/
def State.bankOff (s : State) (b : Bank) : State :=
  b.chans.foldl State.pauseChan (s.modBank b (fun k => { k with state := .off, warm := 0 }))

/-- The bank a command of a port names: BAD_PARAM above 3, WRONG_PORT for a bank another port owns (R94). -/
def viaBank (p : Port) (code : Byte) (act : State → Bank → State) (s : State) : State × Reply :=
  match namedBank code with
  | none => refuse .badParam s
  | some b => if b.owner != p then refuse .wrongPort s else (act s b, Reply.just .ok)

/-- BANK_ON (R94, R95). -/
def execBankOn (p : Port) (code : Byte) (s : State) : Host.Outcome State Fault Refusal :=
  .next (grant p (frameBytes (.bankOn p code)) (viaBank p code State.bankOn) s)

/-- BANK_OFF (R94, R97). -/
def execBankOff (p : Port) (code : Byte) (s : State) : Host.Outcome State Fault Refusal :=
  .next (grant p (frameBytes (.bankOff p code)) (viaBank p code State.bankOff) s)

/-- The warm timer of a WARMING bank runs out at the decrement that brings it to 0 (R95, R96). -/
def State.warmExpiry (s : State) (b : Bank) : State :=
  if (s.bank b).state == .warming && decide ((s.bank b).warm ≤ 1) then s.bankBecomesReady b else s

/-- WARM_TIMER_EXPIRY (R96). -/
def execWarmTimerExpiry (b : Bank) (s : State) : Host.Outcome State Fault Refusal :=
  .next (whileUp (fun s => s.warmExpiry b) s)

end Sys2Proof.Machine
end

