-- ==== Sys2Proof/Machine/Washout.lean ====
section
/-! DEFINITION. The Washout Unit: WASH_CLAIM, WASH_DONE, WASH_FAULT, REPLENISH, SOLVENT_CHANGE, SET_LOADING and the overdue
timer's expiry (chapter 7). -/

namespace Sys2Proof.Machine

/-! ### The gate (R127, R128) -/

/-- SOLVENT goes to P and to W (R128). -/
def State.postSolvent (s : State) (param : Nat) : State :=
  (s.post .P ⟨.solvent, none, param⟩).post .W ⟨.solvent, none, param⟩

/-- The warn flag of an evaluation with loading L (R127 step 1). -/
def State.evaluateWarn (s : State) (l : Nat) : State :=
  if s.item .lWarn ≤ l && !s.solvent.warn then
    State.postSolvent { s with solvent := { s.solvent with warn := true } } warnParam
  else if l < s.item .lWarn && s.solvent.warn then { s with solvent := { s.solvent with warn := false } }
  else s

/-- The gate that an evaluation with loading L leaves (R127 step 2). -/
def nextGate (g : Gate) (l lHold lResume : Nat) : Gate :=
  match g with
  | .unknown => if lHold ≤ l then .spent else .opened
  | .opened => if lHold ≤ l then .spent else .opened
  | .spent => if l ≤ lResume then .opened else .spent

/-- The gate of an evaluation; each change of state is posted (R127 step 2). -/
def State.evaluateGateState (s : State) (l : Nat) : State :=
  let g := nextGate s.solvent.gate l (s.item .lHold) (s.item .lResume)
  if g = s.solvent.gate then s
  else State.postSolvent { s with solvent := { s.solvent with gate := g } } g.code

/-- A gate evaluation (R127): while M is unknown the gate is UNKNOWN and the warn flag clear. -/
def State.evaluateGate (s : State) : State :=
  match s.solvent.mass with
  | none => { s with solvent := { s.solvent with gate := .unknown, warn := false } }
  | some m =>
    let l := loadingOf m (s.item .tankL)
    (s.evaluateWarn l).evaluateGateState l

/-- The dissolved mass is set (R126). -/
def State.setMass (s : State) (m : Nat) : State := { s with solvent := { s.solvent with mass := some m } }

/-! ### WASH_CLAIM (R129, R130) -/

/-- The masses of the plates in the transit list that are not counted yet (R53). -/
def State.uncounted (s : State) : Nat :=
  (s.transit.map (fun e => if (s.plate e.slot).massCounted then 0 else (s.plate e.slot).mass)).sum

/-- The projected loading at a claim (R53); M is known at every claim that passes its checks. -/
def State.projectedLoading (s : State) : Nat :=
  loadingOf (s.solvent.mass.getD 0 + s.uncounted) (s.item .tankL)

/-- The transport speed of a plate before its clamp (R54, R55). -/
def State.speedFor (s : State) (i : Slot) : Nat :=
  rawSpeed (s.item .brushLen)
    (effectiveRate (s.plateType i).rateFresh (rateFactor (s.plateType i).sens s.projectedLoading))
    (s.plate i).relief

/-- A plate is claimed: out of the washout queue, its speed stored, its marks set, and into the transit list with its
overdue timer started (R130). -/
def State.claim (s : State) (i : Slot) : State × Reply :=
  let raw := s.speedFor i
  let v := clampSpeed (s.item .vMin) (s.item .vMax) raw
  let t := (s.leaveList .wash i).modPlate i (fun p =>
    { p with
      state := .washing
      speed := some v
      marks := (p.marks.addIf (decide (raw < s.item .vMin)) .washShort).addIf (decide (s.item .vMax < raw)) .washLong })
  ({ t with transit := t.transit ++ [⟨i, overdueTime (s.item .brushLen) v (s.item .washTail), false⟩] },
    ⟨okOrClamped (v != raw), slotByte (some i) :: beBytes 2 v⟩)

/-- The number of plates the transit list holds at most (R124). -/
def transitCapacity : Nat := 3

/-- WASH_CLAIM when granted (R129, R130). -/
def washClaimEffect (code : Byte) (s : State) : State × Reply :=
  if slotCode code = .bad then refuse .badSlot s
  else if s.solvent.gate = .unknown then refuse .loadingUnknown s
  else if s.solvent.gate = .spent then refuse .solventSpent s
  else if transitCapacity ≤ s.transit.length then refuse .transitFull s
  else
    match slotCode code with
    | .bad => refuse .badSlot s
    | .next =>
      match s.washQ with
      | [] => refuse .queueEmpty s
      | i :: _ => s.claim i
    | .named i => if (s.plate i).state != .exposed then refuse .badState s else s.claim i

/-- WASH_CLAIM. -/
def execWashClaim (code : Byte) (s : State) : Host.Outcome State Fault Refusal :=
  .next (grant .W (frameBytes (.washClaim code)) (washClaimEffect code) s)

/-! ### WASH_DONE and WASH_FAULT (R131 to R133) -/

/-- A plate leaves the transit list from any place, and its overdue timer with it (R124, R125). -/
def State.leaveTransit (s : State) (i : Slot) : State :=
  { s with transit := s.transit.filter (fun e => e.slot != i) }

/-- A plate's mass is booked into M once in its life (R58). -/
def State.book (s : State) (i : Slot) : State :=
  if (s.plate i).massCounted then s
  else
    State.modPlate { s with solvent := { s.solvent with mass := s.solvent.mass.map (fun m => m + (s.plate i).mass) } } i
      (fun p => { p with massCounted := true })

/-- The washout step of a plate ends (R10, R132 step 3). -/
def State.endWash (s : State) (i : Slot) : State :=
  if (s.plate i).holdPending then s.holdAtStep i .operator .washed .W
  else (s.modPlate i (fun p => p.inState .washed)).joinTail .dryer i

/-- The plate of a slot is in the transit list (R131). -/
def State.inTransit (s : State) (i : Slot) : Bool := s.transit.any (fun e => e.slot == i)

/-- The plate at the head of the transit list (R131). -/
def State.transitHead (s : State) : Option Slot := s.transit.head?.map (fun e => e.slot)

/-- WASH_DONE of a plate (R131, R132). -/
def washDonePlate (s : State) (i : Slot) : State × Reply :=
  if !s.inTransit i then refuse .badState s
  else if s.transitHead != some i then refuse .order s
  else
    let t := ((s.leaveTransit i).book i).endWash i
    (t.evaluateGate, ⟨.ok, [byte1 (t.plate i).state.code]⟩)

/-- WASH_DONE. -/
def execWashDone (slot : Byte) (s : State) : Host.Outcome State Fault Refusal :=
  .next (grant .W (frameBytes (.washDone slot)) (viaSlot slot washDonePlate) s)

/-- WASH_FAULT of a plate (R133). -/
def washFaultPlate (s : State) (i : Slot) : State × Reply :=
  if !s.inTransit i then refuse .badState s
  else ((((s.leaveTransit i).book i).holdAtStep i .washFault .exposed .W).evaluateGate, Reply.just .ok)

/-- WASH_FAULT. -/
def execWashFault (slot : Byte) (s : State) : Host.Outcome State Fault Refusal :=
  .next (grant .W (frameBytes (.washFault slot)) (viaSlot slot washFaultPlate) s)

/-! ### Keeping the solvent (R135 to R137) -/

/-- REPLENISH when granted (R59, R135). -/
def replenishEffect (litres : Word) (s : State) : State × Reply :=
  match s.solvent.mass with
  | none => refuse .loadingUnknown s
  | some m =>
    let v := s.item .tankL
    let drained := drainedMass m (min litres.toNat v) v
    ((s.setMass (m - drained)).evaluateGate, ⟨okOrClamped (decide (v < litres.toNat)), beBytes 4 drained⟩)

/-- REPLENISH. -/
def execReplenish (litres : Word) (s : State) : Host.Outcome State Fault Refusal :=
  .next (grant .W (frameBytes (.replenish litres)) (replenishEffect litres) s)

/-- SOLVENT_CHANGE when granted (R136). -/
def solventChangeEffect (s : State) : State × Reply := ((s.setMass 0).evaluateGate, Reply.just .ok)

/-- SOLVENT_CHANGE. -/
def execSolventChange (s : State) : Host.Outcome State Fault Refusal :=
  .next (grant .W (frameBytes .solventChange) solventChangeEffect s)

/-- SET_LOADING when granted (R137). -/
def setLoadingEffect (loading : Word) (s : State) : State × Reply :=
  ((s.setMass (loading.toNat * s.item .tankL)).evaluateGate, Reply.just .ok)

/-- SET_LOADING. -/
def execSetLoading (loading : Word) (s : State) : Host.Outcome State Fault Refusal :=
  .next (grant .P (frameBytes (.setLoading loading)) (setLoadingEffect loading) s)

/-! ### The overdue timer (R125) -/

/-- A transit entry's overdue timer is counting and the next decrement brings it to 0 (R125). -/
def TransitEntry.runsOut (e : TransitEntry) (i : Slot) : Bool := e.slot == i && !e.expired && decide (e.remaining ≤ 1)

/-- A plate's overdue timer expires: the entry is marked expired, the plate OVERDUE, and the host is told (R125). -/
def State.overdueExpiry (s : State) (i : Slot) : State :=
  if s.transit.any (fun e => e.runsOut i) then
    (State.modPlate
      { s with transit := s.transit.map (fun e => if e.runsOut i then { e with remaining := 0, expired := true } else e) }
      i (fun p => p.mark .overdue)).post .P ⟨.overdue, some i, 0⟩
  else s

/-- OVERDUE_TIMER_EXPIRY (R125). -/
def execOverdueTimerExpiry (i : Slot) (s : State) : Host.Outcome State Fault Refusal :=
  .next (whileUp (fun s => s.overdueExpiry i) s)

end Sys2Proof.Machine
end

