-- ==== Sys2Proof/Machine/Line.lean ====
section
/-! DEFINITION. READ_LINE, SET_CONFIG, READ_CONFIG, and the power-on reset (R182, R184 to R186). -/

namespace Sys2Proof.Machine

/-! ### READ_LINE (R184) -/

/-- The five bytes of a bank (R184). -/
def BankRec.bytes (k : BankRec) : List Byte :=
  [byte1 k.state.code] ++ beBytes 2 (if k.state = .warming then k.warm else 0) ++ beBytes 2 (k.ref.getD 0)

/-- The three bytes of a channel (R184). -/
def Channel.bytes (k : Channel) : List Byte :=
  [byte1 k.state.code, codeOrFF (if k.state = .stopped then k.result.map StopResult.code else none), slotByte k.slot]

/-- The length and the head slot of a list (R184). -/
def listBytes (q : List Slot) : List Byte := [byte1 q.length, slotByte q.head?]

/-- The length of the transit list and its three places, oldest first (R184). -/
def transitBytes (t : List TransitEntry) : List Byte :=
  byte1 t.length :: (List.range 3).map (fun n => slotByte (t[n]?.map (fun e => e.slot)))

/-- The four bytes of a drawer (R184). -/
def Drawer.bytes (k : Drawer) : List Byte := [byte1 k.state.code, slotByte k.slot] ++ beBytes 2 k.remaining

/-- The loading shown by READ_LINE, 0 while M is unknown (R52, R184). -/
def State.shownLoading (s : State) : Nat :=
  match s.solvent.mass with
  | some m => loadingOf m (s.item .tankL)
  | none => 0

/-- The eighty-three data bytes of READ_LINE (R184). -/
def State.lineBytes (s : State) : List Byte :=
  [byte1 s.frame.state.code, slotByte s.frame.laneA.slot, slotByte s.frame.laneB.slot,
    byte1 (flagBits [s.frame.laneA.failure, s.frame.laneA.short, s.frame.laneB.failure, s.frame.laneB.short])]
    ++ s.banks.toList.flatMap BankRec.bytes ++ s.chans.toList.flatMap Channel.bytes
    ++ listBytes s.exposureQ ++ listBytes s.washQ ++ transitBytes s.transit
    ++ listBytes s.dryerQ ++ listBytes s.finisherQ
    ++ s.drawers.toList.flatMap Drawer.bytes
    ++ [byte1 s.finisher.state.code, slotByte s.finisher.slot, byte1 (flagBits [s.finisher.failure, s.finisher.short])]
    ++ [byte1 (flagBits [s.solvent.mass.isSome, s.solvent.warn]), byte1 s.solvent.gate.code]
    ++ beBytes 4 (s.solvent.mass.getD 0) ++ beBytes 4 s.shownLoading

/-- READ_LINE when granted (R184). -/
def readLineEffect (s : State) : State × Reply := (s, ⟨.ok, s.lineBytes⟩)

/-- READ_LINE. -/
def execReadLine (p : Port) (s : State) : Host.Outcome State Fault Refusal :=
  .next (grant p (frameBytes (.readLine p)) readLineEffect s)

/-! ### SET_CONFIG and READ_CONFIG (R185, R186) -/

/-- Step 2 of R185: a value clamped against the other item of its ordered pair. -/
def State.pairClamp (s : State) (x : Item) (v : Nat) : Nat :=
  match x with
  | .vMin => min v (s.item .vMax - 1)
  | .vMax => max v (s.item .vMin + 1)
  | .lResume => min v (s.item .lHold - 1)
  | .lHold => max v (s.item .lResume + 1)
  | .sampleDiv => v
  | .warmBack => v
  | .warmFace => v
  | .warmDetack => v
  | .warmPost => v
  | .laneWidth => v
  | .bedLength => v
  | .pairTol => v
  | .brushLen => v
  | .tankL => v
  | .lWarn => v
  | .washTail => v

/-- The value SET_CONFIG stores (R185). -/
def State.configValue (s : State) (x : Item) (v : Nat) : Nat := s.pairClamp x (clampTo x.range.1 x.range.2 v)

/-- The block that owns an item acts on its change: the Washout Unit evaluates the gate for TANK_L and the three loading
limits; every other item is read when it is next used (R38, R95, R105, R138, R185). -/
def State.itemChanged (s : State) (x : Item) : State := if x.movesGate then s.evaluateGate else s

/-- A value is stored; a value that equals the one already stored changes nothing (R185). -/
def State.storeItem (s : State) (x : Item) (v : Nat) : State :=
  if v = s.item x then s else (s.setItem x v).itemChanged x

/-- SET_CONFIG when granted (R185). -/
def setConfigEffect (code : Byte) (value : Word) (s : State) : State × Reply :=
  match namedItem code with
  | none => refuse .badParam s
  | some x =>
    let v := s.configValue x value.toNat
    (s.storeItem x v, ⟨okOrClamped (v != value.toNat), beBytes 2 v⟩)

/-- SET_CONFIG. -/
def execSetConfig (code : Byte) (value : Word) (s : State) : Host.Outcome State Fault Refusal :=
  .next (grant .P (frameBytes (.setConfig code value)) (setConfigEffect code value) s)

/-- READ_CONFIG when granted (R186). -/
def readConfigEffect (code : Byte) (s : State) : State × Reply :=
  match namedItem code with
  | none => refuse .badParam s
  | some x => (s, ⟨.ok, beBytes 2 (s.item x)⟩)

/-- READ_CONFIG. -/
def execReadConfig (code : Byte) (s : State) : Host.Outcome State Fault Refusal :=
  .next (grant .P (frameBytes (.readConfig code)) (readConfigEffect code) s)

/-! ### Power-on reset (R182) -/

/-- A port in its power-on state; the level of SEL is the master's and stays (R182). -/
def PortRec.poweredOn (q : PortRec) : PortRec := { selLow := q.selLow }

/-- The part in its power-on state with RST still low: every block as State.reset has it, the levels of the four SEL
inputs as they are, and the events that have yet to happen kept (R25, R37, R66, R100, R121, R141, R153, R163, R174,
R182, R186). -/
def State.powerOn (s : State) : State :=
  { State.reset with
    rstLow := true
    ports := #v[(s.port .P).poweredOn, (s.port .E).poweredOn, (s.port .W).poweredOn, (s.port .D).poweredOn]
    strayCount := s.strayCount
    pending := s.pending }

/-- POWER_ON_RESET (R182). -/
def execPowerOnReset (s : State) : Host.Outcome State Fault Refusal := .next s.powerOn

/-- RST rises: the part resumes, each port waiting for the next fall of SEL (R182). -/
def execRstRise (s : State) : Host.Outcome State Fault Refusal := .next { s with rstLow := false }

end Sys2Proof.Machine
end

