-- ==== Sys2Proof/WellFormed.lean ====
section
/-! DEFINITION. Which terms of `Instr` name an event that the part can have: every operand is one that the row can
carry. A term that is not well formed is no event of the part, and its meaning leaves the state as it is. -/

namespace Sys2Proof

/-- A command that waits at the arbiter, complete on a port that accepts it (R18). -/
def arbiterFrameOk (port : Port) (code : Byte) (params : List Byte) : Bool :=
  match commandRow code with
  | none => false
  | some row => row.arbiter && accepted port row && params.length == row.params

/-- A known command, complete on a port that does not accept it (R179). -/
def wrongPortFrameOk (port : Port) (code : Byte) (params : List Byte) : Bool :=
  match commandRow code with
  | none => false
  | some row => !accepted port row && params.length == row.params

/-- BANK_ON and BANK_OFF come from ports E and D only (R94). -/
def bankPortOk (port : Port) : Bool := port == .E || port == .D

/-- Well-formedness of an event, check by check. -/
def Instr.wellFormed : Instr → Bool
  | .arbiterWait port code params => arbiterFrameOk port code params
  | .unknownCommand _ code => (commandRow code).isNone
  | .wrongPortCommand port code params => wrongPortFrameOk port code params
  | .bankOn port _ => bankPortOk port
  | .bankOff port _ => bankPortOk port
  | .powerOnReset => true
  | .selFall _ => true
  | .selRise _ => true
  | .readStatus _ => true
  | .evtFreeze _ => true
  | .evtTake _ => true
  | .evtDone _ => true
  | .portReset _ => true
  | .readPlate _ _ => true
  | .readLine _ => true
  | .writeType _ _ => true
  | .readType _ => true
  | .stageLot _ => true
  | .hold _ => true
  | .release _ => true
  | .scrap _ => true
  | .purge _ => true
  | .setConfig _ _ => true
  | .readConfig _ => true
  | .setLoading _ => true
  | .loadReq _ => true
  | .startBack => true
  | .startFace => true
  | .unload => true
  | .frameAbort => true
  | .washClaim _ => true
  | .washDone _ => true
  | .washFault _ => true
  | .replenish _ => true
  | .solventChange => true
  | .drawerLoad _ _ => true
  | .drawerOpen _ => true
  | .drawerClose _ => true
  | .drawerUnload _ => true
  | .finishLoad _ => true
  | .finishStart => true
  | .finishAbort => true
  | .finishUnload => true
  | .warmTimerExpiry _ => true
  | .dryTimerExpiry _ => true
  | .overdueTimerExpiry _ => true
  | .sampleDue _ => true
  | .sensorReadStart => true
  | .sensorReadComplete _ => true
  | .byteArrival _ _ => true
  | .timerDecrement _ => true
  | .rstRise => true

end Sys2Proof
end

