-- ==== Sys2Proof/Machine/Ports.lean ====
section
/-! DEFINITION. The Port Interface and the commands exempt from the arbiter: SEL, the bytes of a frame, the dispatch of a
complete command, last-frame errors, and the attention commands of a port (chapters 10 and 11). -/

namespace Sys2Proof.Machine

/-! ### The five commands that act on their own port alone -/

/-- The three bytes of an event identifier (10.4.1). -/
def Entry.identifier (x : Entry) : List Byte :=
  [byte1 (16 * x.cls.rank + x.recurrence), slotByte x.slot, byte1 x.param]

/-- The entry a key names. -/
def Attention.entryOf (a : Attention) (k : EventKey) : Option Entry := a.queue.find? (fun x => x.key == k)

/-- The port's frozen entry (R169). -/
def Attention.frozenEntry (a : Attention) : Option Entry :=
  match a.frozen with
  | some k => a.entryOf k
  | none => none

/-- The six data bytes of READ_STATUS (R181). -/
def PortRec.statusBytes (q : PortRec) : List Byte :=
  [byte1 q.lastError.code, flagByte q.attn.overrun, flagByte q.attn.frozen.isSome]
    ++ beBytes 2 q.attn.inService.toNat ++ [byte1 q.attn.queue.length]

/-- READ_STATUS: the status as it stands, then the last-frame error and OVERRUN are cleared (R181). -/
def PortRec.readStatus (q : PortRec) : PortRec × Reply :=
  ({ q with lastError := .none, attn := { q.attn with overrun := false } }, ⟨.ok, q.statusBytes⟩)

/-- EVT_FREEZE (R169). -/
def Attention.freeze (a : Attention) : Attention × Reply :=
  match a.frozenEntry with
  | some x => (a, ⟨.ok, x.identifier⟩)
  | none =>
    match a.queue with
    | x :: _ =>
      if a.eligibleClass x.cls then ({ a with frozen := some x.key }, ⟨.ok, x.identifier⟩)
      else (a, Reply.just .none)
    | [] => (a, Reply.just .none)

/-- EVT_TAKE (R170). -/
def Attention.take (a : Attention) : Attention × Reply :=
  match a.frozenEntry with
  | some x =>
    ({ a with
        queue := a.queue.filter (fun y => y.key != x.key)
        frozen := none
        inService := a.inService ||| BitVec.twoPow 9 x.cls.rank }, ⟨.ok, x.identifier⟩)
  | none => (a, Reply.just .notFrozen)

/-- EVT_DONE (R171). -/
def Attention.done (a : Attention) : Attention × Reply :=
  match a.topInService with
  | some n => ({ a with inService := a.inService &&& ~~~BitVec.twoPow 9 n }, ⟨.ok, [byte1 n]⟩)
  | none => (a, Reply.just .none)

/-- The attention part of a port's record changed, with the reply. -/
def PortRec.viaAttention (q : PortRec) (f : Attention → Attention × Reply) : PortRec × Reply :=
  ({ q with attn := (f q.attn).1 }, (f q.attn).2)

/-- PORT_RESET: the port's attention state is emptied, its last-frame error cleared (R174, R183). -/
def PortRec.resetPort (q : PortRec) : PortRec × Reply := ({ q with attn := {}, lastError := .none }, Reply.just .ok)

/-! ### The frame -/

/-- A port's record after the eight clocks in which a byte was sent to it and a byte was clocked out (R176). -/
def PortRec.clock (q : PortRec) (sent out : Byte) : PortRec :=
  { q with dataOut := some out, clocks := lineClocks sent out }

/-- A port's record with an answer on its way out (R177, R179). -/
def PortRec.answer (q : PortRec) (r : Reply) (acted : Bool) : PortRec := { q with frame := replyFrame r acted }

/-- An exempt command takes effect on its port's record as its last byte arrives, and its reply is formed (R177). -/
def PortRec.actAtOnce (q : PortRec) (f : PortRec → PortRec × Reply) : PortRec := (f q).1.answer (f q).2 true

/-- The effect of an exempt command by its code (R18); a code that is not exempt does not come here. -/
def exemptEffect (code : Byte) (q : PortRec) : PortRec × Reply :=
  match code.toNat with
  | 1 => q.readStatus
  | 2 => q.viaAttention Attention.freeze
  | 3 => q.viaAttention Attention.take
  | 4 => q.viaAttention Attention.done
  | 5 => q.resetPort
  | _ => (q, Reply.just .unknownCommand)

/-- A byte joins the frame's code and parameters: the frame goes on, or its last parameter byte has arrived and the
command waits, acts at once, or is answered WRONG_PORT; an unknown code is answered at once (R177, R179). -/
def PortRec.acceptBytes (q : PortRec) (p : Port) (bytes : List Byte) : PortRec :=
  match bytes with
  | [] => { q with frame := .receiving [] }
  | code :: params =>
    match commandRow code with
    | none => q.answer (Reply.just .unknownCommand) false
    | some row =>
      if params.length < row.params then { q with frame := .receiving (code :: params) }
      else if accepted p row then
        if row.arbiter then { q with frame := .waiting (code :: params) }
        else q.actAtOnce (exemptEffect code)
      else q.answer (Reply.just .wrongPort) false

/-- A byte arrives on a port whose SEL is low and whose frame is in progress: what is clocked out with it, bit for bit,
and what the frame becomes with the byte that its eight clocks bring in (R176, R177). -/
def PortRec.shift (q : PortRec) (p : Port) (b : Byte) : PortRec :=
  match q.frame with
  | .idle => q
  | .receiving got => (q.clock b 0xFF).acceptBytes p (got ++ [receivedByte (lineClocks b 0xFF)])
  | .waiting _ => q.clock b 0xFF
  | .answering (n + 1) rest acted => { q.clock b 0xFF with frame := .answering n rest acted }
  | .answering 0 (r :: rest) acted => { q.clock b r with frame := .answering 0 rest acted }
  | .answering 0 [] _ => q.clock b 0x00

/-- A byte arrives on a port. With SEL high no byte is clocked. With SEL low and no frame in progress (after a power-on
reset that found SEL low) the byte is ignored, and the byte driven out is free (R182, log entry 5). -/
def State.shiftByte (s : State) (p : Port) (b : Byte) : State :=
  if !(s.port p).selLow then s
  else if (s.port p).frame == .idle then
    { s.modPort p (fun q => q.clock b (Config.strayByte s.strayCount)) with strayCount := s.strayCount + 1 }
  else s.modPort p (fun q => q.shift p b)

/-- BYTE_ARRIVAL (R176). -/
def execByteArrival (p : Port) (b : Byte) (s : State) : Host.Outcome State Fault Refusal :=
  .next (whileUp (fun s => s.shiftByte p b) s)

/-- The frame on a port has received all the bytes of a command but the last, and SEL is low. -/
def State.completes (s : State) (p : Port) (bytes : List Byte) : Bool :=
  !s.rstLow && (s.port p).selLow && !bytes.isEmpty && (s.port p).frame == .receiving bytes.dropLast

/-- A row that is the arrival of a command's last byte: where the frame has received the rest, 0xFF is clocked out with
that byte (R176) and the port's record is changed by the command; elsewhere there is no such event (log entry 2). -/
def lastByte (p : Port) (bytes : List Byte) (f : PortRec → PortRec) (s : State) : State :=
  if s.completes p bytes then s.modPort p (fun q => f (q.clock (bytes.getLastD 0) 0xFF)) else s

/-- READ_STATUS (R181). -/
def execReadStatus (p : Port) (s : State) : Host.Outcome State Fault Refusal :=
  .next (lastByte p (frameBytes (.readStatus p)) (fun q => q.actAtOnce PortRec.readStatus) s)

/-- EVT_FREEZE (R169). -/
def execEvtFreeze (p : Port) (s : State) : Host.Outcome State Fault Refusal :=
  .next (lastByte p (frameBytes (.evtFreeze p)) (fun q => q.actAtOnce (fun q => q.viaAttention Attention.freeze)) s)

/-- EVT_TAKE (R170). -/
def execEvtTake (p : Port) (s : State) : Host.Outcome State Fault Refusal :=
  .next (lastByte p (frameBytes (.evtTake p)) (fun q => q.actAtOnce (fun q => q.viaAttention Attention.take)) s)

/-- EVT_DONE (R171). -/
def execEvtDone (p : Port) (s : State) : Host.Outcome State Fault Refusal :=
  .next (lastByte p (frameBytes (.evtDone p)) (fun q => q.actAtOnce (fun q => q.viaAttention Attention.done)) s)

/-- PORT_RESET (R183). -/
def execPortReset (p : Port) (s : State) : Host.Outcome State Fault Refusal :=
  .next (lastByte p (frameBytes (.portReset p)) (fun q => q.actAtOnce PortRec.resetPort) s)

/-- A command with a valid code, allowed on its port and not exempt, begins to wait at the arbiter as its last byte
arrives (R18). -/
def execArbiterWait (p : Port) (code : Byte) (params : List Byte) (s : State) : Host.Outcome State Fault Refusal :=
  .next (if arbiterFrameOk p code params then
      lastByte p (frameBytes (.arbiterWait p code params)) (fun q => { q with frame := .waiting (code :: params) }) s
    else s)

/-- A code byte that names no command is answered with one filler byte and UNKNOWN_COMMAND (R179). -/
def execUnknownCommand (p : Port) (code : Byte) (s : State) : Host.Outcome State Fault Refusal :=
  .next (if (commandRow code).isNone then
      lastByte p (frameBytes (.unknownCommand p code)) (fun q => q.answer (Reply.just .unknownCommand) false) s
    else s)

/-- A known command that the port does not accept is answered with one filler byte and WRONG_PORT (R179). -/
def execWrongPortCommand (p : Port) (code : Byte) (params : List Byte) (s : State) : Host.Outcome State Fault Refusal :=
  .next (if wrongPortFrameOk p code params then
      lastByte p (frameBytes (.wrongPortCommand p code params)) (fun q => q.answer (Reply.just .wrongPort) false) s
    else s)

/-! ### SEL -/

/-- A fall of SEL begins a frame (R176). While RST is low the line moves and no frame begins (R182). -/
def execSelFall (p : Port) (s : State) : Host.Outcome State Fault Refusal :=
  .next (if (s.port p).selLow then s
    else if s.rstLow then s.modPort p (fun q => { q with selLow := true })
    else s.modPort p (fun q => { q with selLow := true, frame := .receiving [], dataOut := none, clocks := [] }))

/-- What a rise of SEL leaves in the last-frame error, by how far the frame had gone (R178, R179). -/
def errorAfterRise (f : Frame) (before : FrameError) : FrameError :=
  match f with
  | .idle => before
  | .receiving [] => before
  | .receiving (_ :: _) => .frameShort
  | .waiting _ => .frameShort
  | .answering _ [] _ => before
  | .answering _ (_ :: _) true => .replyCut
  | .answering _ (_ :: _) false => before

/-- A rise of SEL ends the frame at whatever point it has reached; a waiting command is withdrawn without effect (R20,
R178). -/
def execSelRise (p : Port) (s : State) : Host.Outcome State Fault Refusal :=
  .next (s.modPort p (fun q =>
    if q.selLow then
      { q with
        selLow := false
        frame := .idle
        dataOut := none
        clocks := []
        lastError := errorAfterRise q.frame q.lastError }
    else q))

end Sys2Proof.Machine
end

