-- ==== Sys2Proof/Machine/Staging.lean ====
section
/-! DEFINITION. STAGE_LOT and LOAD_REQ (chapter 4). -/

namespace Sys2Proof.Machine

/-! ### STAGE_LOT -/

/-- The record of a copy as STAGE_LOT fills it, with its derived values and staging marks (R2, R39 to R43, R57, R61). -/
def stagedPlate (t : Fin 16) (r : TypeRec) (lot : LotImage) (copy : Nat) : Plate :=
  let relief := lot.relief.toNat
  let floor := r.thickness - relief
  let trim := clampTrim lot.trim.toInt
  let nonimage := clampNonimage lot.nonimage.toNat
  { Plate.cleared with
    state := .staged
    typeIx := t
    lot := lot.lot.toNat
    copy := copy
    rush := lot.rush == 1
    width := lot.width.toNat
    length := lot.length.toNat
    nonimage := nonimage
    relief := relief
    trim := trim
    floor := floor
    backTarget := backTarget r.curve floor
    faceTarget := faceTarget r.faceDose trim
    mass := removedMass lot.width.toNat lot.length.toNat nonimage relief r.density
    dryRemaining := drySeconds r.dryBase r.drySlope r.thickness
    marks := ((((({} : Marks).addIf (floorLow r.curve floor) .floorLow).addIf (floorHigh r.curve floor) .floorHigh).addIf
      (decide (100 < lot.nonimage.toNat)) .coverClamp).addIf (lot.trim.toInt != trim) .trimClamp).addIf
      (faceTarget r.faceDose trim != faceDoseTrimmed r.faceDose trim) .faceClamp }

/-- The FREE slots in ascending order (R69). -/
def State.freeSlots (s : State) : List Slot := (List.finRange 64).filter (fun i => (s.plate i).state == .free)

/-- Slots filled in ascending order with copies numbered from n (R69). -/
def State.fillCopies (s : State) (mk : Nat → Plate) : Nat → List Slot → State
  | _, [] => s
  | n, i :: rest => (s.modPlate i (fun _ => mk n)).fillCopies mk (n + 1) rest

/-- The copies join the tail of their class in the exposure queue, in slot order (R70). -/
def State.queueCopies (s : State) (slots : List Slot) : List Slot :=
  slots.foldl (fun q i => s.atClassTail q i) s.exposureQ

/-- The lot fits the frame as its limits stand at the grant (R68 check 3). -/
def State.lotFits (s : State) (lot : LotImage) : Bool :=
  decide (1 ≤ lot.width.toNat) && decide (lot.width.toNat ≤ 2 * s.item .laneWidth)
    && decide (1 ≤ lot.length.toNat) && decide (lot.length.toNat ≤ s.item .bedLength)

/-- The copies of an accepted lot are made and queued, and the exposure queue is announced if it was empty (R69, R70). -/
def State.stage (s : State) (mk : Nat → Plate) (slots : List Slot) : State :=
  let t := s.fillCopies mk 0 slots
  t.fillList .exposure (t.queueCopies slots)

/-- A staging mark other than none was raised (R70). -/
def Plate.anyMark (p : Plate) : Bool := p.marks != {}

/-- STAGE_LOT when granted (R67 to R70). -/
def stageLotEffect (lot : LotImage) (s : State) : State × Reply :=
  if 15 < lot.copiesLess1.toNat then refuse .badParam s
  else if lot.rush != 0 && lot.rush != 1 then refuse .badParam s
  else
    match namedType lot.typeIx with
    | none => refuse .typeInvalid s
    | some t =>
      let r := s.typeRec t
      let copies := lot.copiesLess1.toNat + 1
      let slots := s.freeSlots.take copies
      if !r.valid then refuse .typeInvalid s
      else if !(decide (1 ≤ lot.relief.toNat) && decide (lot.relief.toNat < r.thickness)) then refuse .badRelief s
      else if !s.lotFits lot then refuse .badSize s
      else if s.freeSlots.length < copies then refuse .full s
      else
        (s.stage (stagedPlate t r lot) slots,
          ⟨okOrClamped (stagedPlate t r lot 0).anyMark, [slotByte slots.head?, byte1 copies]⟩)

/-- STAGE_LOT. -/
def execStageLot (lot : LotImage) (s : State) : Host.Outcome State Fault Refusal :=
  .next (grant .P (frameBytes (.stageLot lot)) (stageLotEffect lot) s)

/-! ### LOAD_REQ -/

/-- A plate no wider than a lane (R71). -/
def State.isNarrow (s : State) (i : Slot) : Bool := decide ((s.plate i).width ≤ s.item .laneWidth)

/-- A plate that fits the frame (R71). -/
def State.fitsFrame (s : State) (i : Slot) : Bool :=
  decide ((s.plate i).width ≤ 2 * s.item .laneWidth) && decide ((s.plate i).length ≤ s.item .bedLength)

/-- A plate can be the head's partner (R74, R75). -/
def State.canPair (s : State) (head cand : Slot) : Bool :=
  s.isNarrow cand && s.fitsFrame cand
    && compatible (s.item .pairTol) (s.plateEstimate head) (s.plateEstimate cand)

/-- The pairing scan: the first plate of the window, the second to fifth of the queue, that can be the head's partner
(R74). -/
def State.pairingScan (s : State) (head : Slot) (behind : List Slot) : Option Slot :=
  (behind.take 4).find? (s.canPair head)

/-- A plate is placed on the frame (R3, R73, R74). -/
def State.placeOnFrame (s : State) (i : Slot) (lane : LanePlace) : State :=
  (s.leaveList .exposure i).modPlate i (fun p => { p with state := .onFrame, lane := some lane })

/-- The frame is LOADED, with no failure or short mark on either lane (R76, R78). -/
def State.bedLoaded (s : State) (a b : Option Slot) : State :=
  { s with frame := ⟨.loaded, { slot := a }, { slot := b }⟩ }

/-- The plates of a LOAD_REQ that is not refused are placed (R73, R74, R76). -/
def State.load (s : State) (head : Slot) (behind : List Slot) (pair : Bool) : State × Reply :=
  if !s.isNarrow head then
    ((s.placeOnFrame head .both).bedLoaded (some head) (some head),
      ⟨.ok, [slotByte (some head), slotByte (some head), 1]⟩)
  else
    match if pair then s.pairingScan head behind else none with
    | some mate =>
      (((s.placeOnFrame head .a).placeOnFrame mate .b).bedLoaded (some head) (some mate),
        ⟨.ok, [slotByte (some head), slotByte (some mate), 0]⟩)
    | none => ((s.placeOnFrame head .a).bedLoaded (some head) none, ⟨.ok, [slotByte (some head), slotByte none, 0]⟩)

/-- LOAD_REQ when granted (R72 to R76). -/
def loadReqEffect (mode : Byte) (s : State) : State × Reply :=
  if mode != 0 && mode != 1 then refuse .badParam s
  else if s.frame.state != .empty then refuse .badState s
  else
    match s.exposureQ with
    | [] => refuse .queueEmpty s
    | head :: behind => if !s.fitsFrame head then refuse .badSize s else s.load head behind (mode == 1)

/-- LOAD_REQ. -/
def execLoadReq (mode : Byte) (s : State) : Host.Outcome State Fault Refusal :=
  .next (grant .E (frameBytes (.loadReq mode)) (loadReqEffect mode) s)

end Sys2Proof.Machine
end

