-- ==== Sys2Proof/Machine/Dispatch.lean ====
section
/-! DEFINITION. One arm for each event of the part. -/

namespace Sys2Proof.Machine

def exec (i : Instr) (s : State) : Host.Outcome State Fault Refusal :=
  match i with
  | .powerOnReset => Sys2Proof.Machine.execPowerOnReset s
  | .selFall port => Sys2Proof.Machine.execSelFall port s
  | .selRise port => Sys2Proof.Machine.execSelRise port s
  | .arbiterWait port code params => Sys2Proof.Machine.execArbiterWait port code params s
  | .unknownCommand port code => Sys2Proof.Machine.execUnknownCommand port code s
  | .readStatus port => Sys2Proof.Machine.execReadStatus port s
  | .evtFreeze port => Sys2Proof.Machine.execEvtFreeze port s
  | .evtTake port => Sys2Proof.Machine.execEvtTake port s
  | .evtDone port => Sys2Proof.Machine.execEvtDone port s
  | .portReset port => Sys2Proof.Machine.execPortReset port s
  | .readPlate port slot => Sys2Proof.Machine.execReadPlate port slot s
  | .readLine port => Sys2Proof.Machine.execReadLine port s
  | .writeType typeIx image => Sys2Proof.Machine.execWriteType typeIx image s
  | .readType typeIx => Sys2Proof.Machine.execReadType typeIx s
  | .stageLot lot => Sys2Proof.Machine.execStageLot lot s
  | .hold slot => Sys2Proof.Machine.execHold slot s
  | .release slot => Sys2Proof.Machine.execRelease slot s
  | .scrap slot => Sys2Proof.Machine.execScrap slot s
  | .purge slot => Sys2Proof.Machine.execPurge slot s
  | .setConfig item value => Sys2Proof.Machine.execSetConfig item value s
  | .readConfig item => Sys2Proof.Machine.execReadConfig item s
  | .setLoading loading => Sys2Proof.Machine.execSetLoading loading s
  | .loadReq mode => Sys2Proof.Machine.execLoadReq mode s
  | .bankOn port bank => Sys2Proof.Machine.execBankOn port bank s
  | .bankOff port bank => Sys2Proof.Machine.execBankOff port bank s
  | .startBack => Sys2Proof.Machine.execStartBack s
  | .startFace => Sys2Proof.Machine.execStartFace s
  | .unload => Sys2Proof.Machine.execUnload s
  | .frameAbort => Sys2Proof.Machine.execFrameAbort s
  | .washClaim slot => Sys2Proof.Machine.execWashClaim slot s
  | .washDone slot => Sys2Proof.Machine.execWashDone slot s
  | .washFault slot => Sys2Proof.Machine.execWashFault slot s
  | .replenish litres => Sys2Proof.Machine.execReplenish litres s
  | .solventChange => Sys2Proof.Machine.execSolventChange s
  | .drawerLoad drawer slot => Sys2Proof.Machine.execDrawerLoad drawer slot s
  | .drawerOpen drawer => Sys2Proof.Machine.execDrawerOpen drawer s
  | .drawerClose drawer => Sys2Proof.Machine.execDrawerClose drawer s
  | .drawerUnload drawer => Sys2Proof.Machine.execDrawerUnload drawer s
  | .finishLoad slot => Sys2Proof.Machine.execFinishLoad slot s
  | .finishStart => Sys2Proof.Machine.execFinishStart s
  | .finishAbort => Sys2Proof.Machine.execFinishAbort s
  | .finishUnload => Sys2Proof.Machine.execFinishUnload s
  | .warmTimerExpiry bank => Sys2Proof.Machine.execWarmTimerExpiry bank s
  | .dryTimerExpiry drawer => Sys2Proof.Machine.execDryTimerExpiry drawer s
  | .overdueTimerExpiry slot => Sys2Proof.Machine.execOverdueTimerExpiry slot s
  | .sampleDue chan => Sys2Proof.Machine.execSampleDue chan s
  | .sensorReadStart => Sys2Proof.Machine.execSensorReadStart s
  | .sensorReadComplete answer => Sys2Proof.Machine.execSensorReadComplete answer s
  | .wrongPortCommand port code params => Sys2Proof.Machine.execWrongPortCommand port code params s
  | .byteArrival port byte => Sys2Proof.Machine.execByteArrival port byte s
  | .timerDecrement timer => Sys2Proof.Machine.execTimerDecrement timer s
  | .rstRise => Sys2Proof.Machine.execRstRise s

end Sys2Proof.Machine
end

