-- ==== Sys2Proof/Safety.lean ====
section
/-! DEFINITION. The terms that claims about the part are stated in: when a row is enabled, the state a grant leaves, the
reading of a reply's bytes, and the invariants that the manual states of its tables, lists, channels, solvent account,
event queues and configuration items. Nothing of the machine calls these. -/

namespace Sys2Proof.Machine

/-! ### When a row is enabled, and what its answer is -/

/-- The arbiter grants this command next (R19). -/
abbrev Granted (c : Instr) (s : State) : Prop :=
  ((commandPort c).any fun p => s.grants p (frameBytes c)) = true

/-- The last byte of this frame is the next byte its port takes (R176). -/
abbrev LastByteDue (c : Instr) (s : State) : Prop :=
  ((commandPort c).any fun p => s.completes p (frameBytes c)) = true

/-- A state whose port p has been granted: a result byte and reply data on their way out behind one filler byte (log entry
4), and the arbiter's pointer at the port after p (R19, R177). -/
def State.replied (s : State) (p : Port) (result : Byte) (data : List Byte) : State :=
  { s with
    ports := s.ports.set p.index { s.ports[p.index] with frame := .answering 1 (result :: data) true }
    pointer := p.next }

/-- The eight clocks of a byte sent to a port while a byte is clocked out: bit 7 of each first, bit 0 last (R176). -/
def eightClocks (sent out : Byte) : List LineClock :=
  (List.range 8).map fun n => ⟨sent.getLsbD (7 - n), out.getLsbD (7 - n)⟩

/-- A port's record with a byte clocked in and a byte clocked out (R176). -/
def PortRec.clocked (q : PortRec) (sent out : Byte) : PortRec :=
  { q with dataOut := some out, clocks := eightClocks sent out }

/-- A state whose port p has taken a command's last byte, has sent 0xFF with it, and has this record and this answer
(R176, R177). -/
def State.answeredAtOnce (s : State) (p : Port) (sent : Byte) (q : PortRec) (result : Byte) (data : List Byte) : State :=
  s.modPort p (fun _ => { q.clocked sent 0xFF with frame := .answering 1 (result :: data) true })

/-- PLATE_HELD of a plate, to P and then to a station (R12). -/
def State.tellHeld (s : State) (i : Slot) (reason : Nat) (station : Port) : State :=
  (s.post .P ⟨.plateHeld, some i, reason⟩).post station ⟨.plateHeld, some i, reason⟩

/-- The number that n bytes from an offset carry, most significant first (0.6.3). -/
def numberAt (bytes : List Byte) (offset n : Nat) : Nat :=
  ((bytes.drop offset).take n).foldl (fun v b => 256 * v + b.toNat) 0

/-- The byte at an offset. -/
def byteOf (bytes : List Byte) (offset : Nat) : Nat := numberAt bytes offset 1

/-- A port comes before another when the arbiter next looks (R19). -/
def State.looksFirst (s : State) (p q : Port) : Prop :=
  (arbiterCycle s.pointer).idxOf p < (arbiterCycle s.pointer).idxOf q

/-- The three bytes of an event identifier (10.4.1). -/
def eventBytes (x : Entry) : List Byte :=
  [BitVec.ofNat 8 (16 * x.cls.rank + x.recurrence),
    (match x.slot with
      | some i => BitVec.ofNat 8 i.val
      | none => 0xFF),
    BitVec.ofNat 8 x.param]

/-- Several events posted to one port, in order (R165). -/
def State.postAll (s : State) (p : Port) (es : List Event) : State := es.foldl (fun t e => t.post p e) s

/-- QUEUE_READY of a list to a port, when the list was empty (R65, R123, R142, R154). -/
def State.tellReady (s : State) (wasEmpty : Bool) (p : Port) (param : Nat) : State :=
  if wasEmpty then s.post p ⟨.queueReady, none, param⟩ else s

/-- A channel's record as it is started for a plate: RUNNING with a need, or stopped REACHED at once without one
(R104). -/
def startOutcome (i : Slot) (partner : Option Chan) (need : Int) (limit ts : Nat) : Channel :=
  if 0 < need then
    { state := .running, slot := some i, partner := partner, need := some need.toNat, limit := some limit,
      interval := some ts }
  else { state := .stopped, result := some .reached, slot := some i, partner := partner, limit := some limit }

/-- The record of a channel that a start command leaves, for the plate it is started for, if any (R81, R85, R157). -/
def startedFor (o : Option Slot) (need : Slot → Int) (limit : Slot → Nat) (ts : Nat) : Channel :=
  match o with
  | some i => startOutcome i none (need i) (limit i) ts
  | none => Channel.idle

/-- The CHANNEL_STOP of a channel that is started with no need (R104, R115). -/
def stopsAtStart (o : Option Slot) (need : Slot → Int) (c : Chan) : List Event :=
  match o with
  | some i => if 0 < need i then [] else [⟨.channelStop, some i, c.index⟩]
  | none => []

/-- A channel is started with a need. -/
def startsRunning (o : Option Slot) (need : Slot → Int) : Bool :=
  match o with
  | some i => decide (0 < need i)
  | none => false

/-- The plate of a lane whose face channel may start: none where the lane has a failure mark (R85). -/
def Lane.unfailed (l : Lane) : Option Slot := if l.failure then none else l.slot

/-- The Sensor Link after a transaction of a channel has ended, with its bit times on the wires (R107, R108). -/
def Link.ended (k : Link) (c : Chan) (answer : Option Word) : Link :=
  { k with busy := none, wire := wireHead c.sensorAddress ++ wireTail answer }

/-- What UNLOAD does with a plate, by its lane's marks and its pending hold (R87, and the table of 5.4). -/
def State.unloaded (s : State) (i : Slot) (lane : Lane) : State :=
  match lane.failure, lane.short, (s.plate i).holdPending with
  | true, _, _ => (s.modPlate i fun p => { p.heldFor .sensor .staged with lane := none }).tellHeld i 3 .E
  | false, true, _ => (s.modPlate i fun p => { p.heldFor .doseShort .exposed with lane := none }).tellHeld i 2 .E
  | false, false, true => (s.modPlate i fun p => { p.heldFor .operator .exposed with lane := none }).tellHeld i 0 .E
  | false, false, false =>
    State.tellReady { s.modPlate i fun p => { p with state := .exposed, lane := none } with washQ := s.washQ ++ [i] }
      s.washQ.isEmpty .W 3

/-- The state code that UNLOAD answers for a plate (R88). -/
def State.unloadCode (s : State) (i : Slot) (lane : Lane) : Byte :=
  if lane.failure || lane.short || (s.plate i).holdPending then 10 else 3

/-- The four frame channels IDLE and the bed empty (R88, R90, R119). -/
def State.bedCleared (s : State) : State :=
  { s with
    frame := {}
    chans := (((s.chans.set 0 Channel.idle).set 1 Channel.idle).set 2 Channel.idle).set 3 Channel.idle }

/-- The two bytes of a number in a reply, most significant first (0.6.3). -/
def word2 (v : Nat) : List Byte := [BitVec.ofNat 8 (v / 256), BitVec.ofNat 8 v]

/-- The byte that names a slot (0.6.2). -/
def nameOf (i : Slot) : Byte := BitVec.ofNat 8 i.val

/-- The channel of a number (R101). -/
def chanAt (n : Fin 6) : Chan :=
  match n with
  | 0 => .backA | 1 => .backB | 2 => .faceA | 3 => .faceB | 4 => .detack | 5 => .post

/-- Every channel's record changed at once. -/
def State.mapChans (s : State) (f : Chan → Channel → Channel) : State :=
  { s with chans := Vector.ofFn fun n => f (chanAt n) s.chans[n] }

/-- The Sensor Link without the requests of some channels: each is gone from the due list, and a transaction under way
for one of them will not be credited (R106). -/
def Link.without (k : Link) (gone : Chan → Bool) : Link :=
  { k with
    due := Vector.ofFn fun n => if gone (chanAt n) then none else k.due[n]
    busy := k.busy.map fun r => { r with live := r.live && !gone r.chan } }

/-- The exposure queue is the rush plates r and then the normal plates n (R62). -/
structure State.classes (s : State) (r n : List Slot) : Prop where
  all : s.exposureQ = r ++ n
  rush : ∀ j ∈ r, (s.plate j).rush = true
  normal : ∀ j ∈ n, (s.plate j).rush = false

/-- A plate is put back in the exposure queue, which is told of if it was empty (R11, R65, R89). -/
def State.putBack (s : State) (i : Slot) (q : List Slot) : State :=
  State.tellReady { s.modPlate i fun p => { p with state := .staged, lane := none } with exposureQ := q }
    s.exposureQ.isEmpty .E 0

/-- A plate that leaves a LOADED frame with a pending hold is HELD (R11, R12, R89). -/
def State.heldAtUndo (s : State) (i : Slot) : State :=
  (s.modPlate i fun p => { p.heldFor .operator .staged with lane := none }).tellHeld i 0 .E

/-- The dose that a channel under way has still to deliver; a channel that has ended has delivered its own (R114, R118). -/
def State.owed (s : State) (c : Chan) : Nat := if s.chanActive c then (s.chan c).accumulator else 0

/-- A plate of a load broken off: its doses booked, and HELD with reason ABORTED (R90, R118). -/
def State.heldAborted (s : State) (i : Slot) (back face : Nat) : State :=
  (s.modPlate i fun p =>
    { p.heldFor .aborted .staged with
      lane := none
      backDelivered := min (2 ^ 48 - 1) (p.backDelivered + back)
      faceDelivered := min (2 ^ 48 - 1) (p.faceDelivered + face) }).tellHeld i 1 .E

/-- The short marks or the failure marks of the lanes, or of the finisher position, of the channels of a run (R82,
R158). -/
def State.noted (s : State) (run : List Chan) (short failure : Bool) : State :=
  { s with
    frame := { s.frame with
      laneA := { s.frame.laneA with
        short := s.frame.laneA.short || short && run.any fun c => c.lane == some .a
        failure := s.frame.laneA.failure || failure && run.any fun c => c.lane == some .a }
      laneB := { s.frame.laneB with
        short := s.frame.laneB.short || short && run.any fun c => c.lane == some .b
        failure := s.frame.laneB.failure || failure && run.any fun c => c.lane == some .b } }
    finisher := { s.finisher with
      short := s.finisher.short || short && run.any fun c => c.lane == none
      failure := s.finisher.failure || failure && run.any fun c => c.lane == none } }

/-- A run is over: its channel c has this record, the partner of a pair has ended in the same way with its read
withdrawn, and the link is idle with c's bit times on the wires (R106, R107, R112, R114). -/
def State.runOver (s : State) (c : Chan) (record : Channel) (answer : Option Word) : State :=
  State.mapChans
    { s with link := (s.link.ended c answer).without fun d => decide (record.partner = some d) }
    fun d k =>
      if d = c then record
      else if record.partner = some d then
        { k with state := record.state, result := record.result, interval := none, readOutstanding := false }
      else k

/-- Successive bytes clocked into a port: the state after them, and the bytes clocked out with them (R176). -/
def State.clockBytes (s : State) (p : Port) : List Byte → State × List (Option Byte)
  | [] => (s, [])
  | b :: bs =>
    match exec (.byteArrival p b) s with
    | .next t => ((t.clockBytes p bs).1, (t.port p).dataOut :: (t.clockBytes p bs).2)
    | .fault _ => (s, [])
    | .refused _ => (s, [])

/-! ### Invariants -/

/-- An attention state as chapter 10 keeps it: in priority order, no two entries of one class and slot, at most sixteen,
each field in its range, and the frozen entry present and eligible (R164, R166 to R169). -/
structure AttentionOk (a : Attention) : Prop where
  ordered : a.queue.Pairwise (fun x y => x.cls.rank ≤ y.cls.rank)
  distinct : a.queue.Pairwise (fun x y => x.key ≠ y.key)
  length : a.queue.length ≤ 16
  fields : ∀ x ∈ a.queue, x.recurrence ≤ 15 ∧ x.param ≤ 255
  frozen : ∀ k ∈ a.frozen, ∃ x ∈ a.queue, x.key = k ∧ a.eligibleClass x.cls = true

/-- Every configuration item within its range, and the two ordered pairs in order (R185, 11.6.1). -/
structure SettingsOk (s : State) : Prop where
  range : ∀ x : Item, x.range.1 ≤ s.item x ∧ s.item x ≤ x.range.2
  speeds : s.item .vMin < s.item .vMax
  loadings : s.item .lResume < s.item .lHold

/-- A valid type record with every field in its range (R27, R29, R30, R33). -/
structure TypeOk (r : TypeRec) : Prop where
  thickness : 76 ≤ r.thickness ∧ r.thickness ≤ 700
  doses : r.curve.toList.Pairwise (fun a b => a.dose < b.dose) ∧ ∀ pt ∈ r.curve.toList, 1 ≤ pt.dose ∧ pt.dose ≤ 65535
  floors : r.curve.toList.Pairwise (fun a b => a.floor < b.floor) ∧ ∀ pt ∈ r.curve.toList, pt.floor < r.thickness
  faceDose : 1 ≤ r.faceDose ∧ r.faceDose ≤ 65535
  backMaxS : 1 ≤ r.backMaxS ∧ r.backMaxS ≤ 65535
  faceMaxS : 1 ≤ r.faceMaxS ∧ r.faceMaxS ≤ 65535
  rateFresh : 10 ≤ r.rateFresh ∧ r.rateFresh ≤ 1000
  sens : r.sens ≤ 100
  density : 500 ≤ r.density ∧ r.density ≤ 2000
  dryBase : r.dryBase ≤ 480
  drySlope : r.drySlope ≤ 100
  detackDose : 1 ≤ r.detackDose ∧ r.detackDose ≤ 65535
  postDose : 1 ≤ r.postDose ∧ r.postDose ≤ 65535
  detackMaxS : 1 ≤ r.detackMaxS ∧ r.detackMaxS ≤ 65535
  postMaxS : 1 ≤ r.postMaxS ∧ r.postMaxS ≤ 65535

/-- Each type record is valid with every field in range, or cleared (R27). -/
def TypesOk (s : State) : Prop :=
  ∀ t : Fin 16, if (s.typeRec t).valid then TypeOk (s.typeRec t) else s.typeRec t = TypeRec.cleared

/-- No delivered dose of a plate is above 2^48 − 1 (R4, 1.1.1). -/
def DosesOk (s : State) : Prop :=
  ∀ i, (s.plate i).backDelivered ≤ 2 ^ 48 - 1 ∧ (s.plate i).faceDelivered ≤ 2 ^ 48 - 1
    ∧ (s.plate i).detackDelivered ≤ 2 ^ 48 - 1 ∧ (s.plate i).postDelivered ≤ 2 ^ 48 - 1

/-- The solvent account and the transit list as chapter 7 keeps them (R124 to R127). -/
structure SolventOk (s : State) : Prop where
  unknown : s.solvent.gate = .unknown ↔ s.solvent.mass = none
  unknownQuiet : s.solvent.mass = none → s.solvent.warn = false ∧ s.transit = []
  warn : ∀ m ∈ s.solvent.mass, (s.solvent.warn = true ↔ s.item .lWarn ≤ m / s.item .tankL)
  opened : s.solvent.gate = .opened → ∀ m ∈ s.solvent.mass, m / s.item .tankL < s.item .lHold
  spent : s.solvent.gate = .spent → ∀ m ∈ s.solvent.mass, s.item .lResume < m / s.item .tankL
  room : s.transit.length ≤ 3
  timers : ∀ e ∈ s.transit, e.remaining ≤ 19800 ∧ (e.expired = true ↔ e.remaining = 0)

/-- A plate record's figures within the ranges of 1.1.1: the upper ends always, since a cleared record has 0 everywhere
(R2), and the lower ends while the slot is not FREE (R39, R40, R43, R68). A mass is at most what R57 makes of the largest
plate. A plate whose state keeps its type in use names a valid type (R32). -/
structure PlateOk (s : State) (i : Slot) : Prop where
  lot : (s.plate i).lot ≤ 65535 ∧ (s.plate i).copy ≤ 15
  size : (s.plate i).width ≤ 3000 ∧ (s.plate i).length ≤ 2500
  nonimage : (s.plate i).nonimage ≤ 100
  trim : -20 ≤ (s.plate i).trim ∧ (s.plate i).trim ≤ 20
  depths : (s.plate i).relief ≤ 699 ∧ (s.plate i).floor ≤ 699
  targets : (s.plate i).backTarget ≤ 65535 ∧ (s.plate i).faceTarget ≤ 65535
  mass : (s.plate i).mass ≤ 1048500
  speed : ∀ v ∈ (s.plate i).speed, 20 ≤ v ∧ v ≤ 3000
  occupied : (s.plate i).state ≠ .free → 1 ≤ (s.plate i).width ∧ 1 ≤ (s.plate i).length ∧ 1 ≤ (s.plate i).relief
    ∧ 1 ≤ (s.plate i).floor ∧ 1 ≤ (s.plate i).backTarget ∧ 1 ≤ (s.plate i).faceTarget
  typed : (s.plate i).state.usesType = true → (s.plateType i).valid = true

/-- Every plate record's figures are in their ranges (1.1.1). -/
def PlatesOk (s : State) : Prop := ∀ i, PlateOk s i

/-- A channel's figures within the ranges of R101, and its accumulator no more than the top of a sensor's range makes of
its elapsed time (R48). -/
structure ChannelInRange (k : Channel) : Prop where
  need : ∀ n ∈ k.need, 1 ≤ n ∧ n ≤ 6553500000
  limit : ∀ l ∈ k.limit, 1000 ≤ l ∧ l ≤ 65535000
  interval : ∀ ts ∈ k.interval, 10 ≤ ts ∧ ts ≤ 160
  lastGood : k.lastGood ≤ 65535
  accumulator : k.accumulator ≤ 65535 * k.elapsed

/-- Every channel's figures are in their ranges, and so is the length that each request and the transaction under way are
credited to (R101, R105, R106). -/
structure LightInRange (s : State) : Prop where
  channels : ∀ c, ChannelInRange (s.chan c)
  due : ∀ c : Chan, ∀ ts ∈ s.link.due[c.index], 10 ≤ ts ∧ ts ≤ 160
  busy : ∀ r ∈ s.link.busy, 10 ≤ r.ts ∧ r.ts ≤ 160

/-- A reference irradiance from 1 to 65,535 when known (R51), and 1 to 600 seconds on the warm timer of a WARMING bank,
none on any other (R95, 11.6.1). -/
structure BankInRange (k : BankRec) : Prop where
  ref : ∀ r ∈ k.ref, 1 ≤ r ∧ r ≤ 65535
  warm : if k.state = .warming then 1 ≤ k.warm ∧ k.warm ≤ 600 else k.warm = 0

/-- Every bank's figures are in their ranges (R51, R95). -/
def BanksInRange (s : State) : Prop := ∀ b, BankInRange (s.bank b)

/-- M in its range, also once the plates in transit have been booked: SET_LOADING makes it at most 131,070,000 (R137), and
at most three plates of at most 1,048,500 each are booked after that or after the last claim (R58, R126). -/
def MassOk (s : State) : Prop :=
  ∀ m ∈ s.solvent.mass, m ≤ 4294967295 ∧ m + 1048500 * s.transit.length ≤ 134215500

/-- The lane or lanes of the frame that name a plate (R78). -/
def State.laneOf (s : State) (i : Slot) : Option LanePlace :=
  if s.frame.laneA.slot = some i then (if s.frame.laneB.slot = some i then some .both else some .a)
  else if s.frame.laneB.slot = some i then some .b
  else none

/-- Every plate is in the location of its state and in no other, and its optional fields are present when they should be
(R1, R3, R5, R62, R143, R155). -/
structure Located (s : State) : Prop where
  staged : s.exposureQ.Nodup ∧ ∀ i, i ∈ s.exposureQ ↔ (s.plate i).state = .staged
  rushFirst : s.exposureQ.Pairwise (fun i j => (s.plate j).rush = true → (s.plate i).rush = true)
  exposed : s.washQ.Nodup ∧ ∀ i, i ∈ s.washQ ↔ (s.plate i).state = .exposed
  washed : s.dryerQ.Nodup ∧ ∀ i, i ∈ s.dryerQ ↔ (s.plate i).state = .washed
  dried : s.finisherQ.Nodup ∧ ∀ i, i ∈ s.finisherQ ↔ (s.plate i).state = .dried
  washing : (s.transit.map (fun e => e.slot)).Nodup
    ∧ ∀ i, i ∈ s.transit.map (fun e => e.slot) ↔ (s.plate i).state = .washing
  bed : (s.frame.state = .empty ↔ s.frame.laneA.slot = none)
    ∧ (s.frame.laneA.slot = none → s.frame.laneB.slot = none)
  onFrame : ∀ i, (s.plate i).lane = s.laneOf i ∧ ((s.plate i).state = .onFrame ↔ (s.laneOf i).isSome = true)
  position : s.finisher.state = .empty ↔ s.finisher.slot = none
  finishing : ∀ i, (s.plate i).state = .finishing ↔ s.finisher.slot = some i
  drawers : ∀ d, (s.drawer d).state = .empty ↔ (s.drawer d).slot = none
  referenced : ∀ i d, (s.plate i).drawer = some d ↔ (s.drawer d).slot = some i
  drying : ∀ i, (s.plate i).state = .drying ↔
    ∃ d, (s.drawer d).slot = some i ∧ ((s.drawer d).state = .drying ∨ (s.drawer d).state = .opened)
  dry : ∀ i d, (s.drawer d).slot = some i → (s.drawer d).state = .dry →
    (s.plate i).state = .dried ∨ ((s.plate i).state = .held ∧ (s.plate i).heldFrom = some .dried)
      ∨ (s.plate i).state = .scrapped
  held : ∀ i, ((s.plate i).state = .held ↔ (s.plate i).heldFrom.isSome = true)
    ∧ ((s.plate i).state = .held ↔ (s.plate i).holdReason.isSome = true)
  pendingHold : ∀ i, (s.plate i).holdPending = true → (s.plate i).state.isActive = true
  free : ∀ i, (s.plate i).state = .free → s.plate i = Plate.cleared

/-- A plate that still owes drying time: before its drawer's expiry, or held to go back there (R2, R146, R150). -/
def Plate.owesDrying (p : Plate) : Bool :=
  match p.state, p.heldFrom with
  | .staged, _ => true
  | .onFrame, _ => true
  | .exposed, _ => true
  | .washing, _ => true
  | .washed, _ => true
  | .drying, _ => true
  | .held, some .staged => true
  | .held, some .exposed => true
  | .held, some .washed => true
  | _, _ => false

/-- The drying times as chapter 8 keeps them: a plate not yet dry owes a second or more, and so does its drawer (R143,
R146). -/
structure DryTimesOk (s : State) : Prop where
  plates : ∀ i, (s.plate i).owesDrying = true → 1 ≤ (s.plate i).dryRemaining
  bounded : ∀ i, (s.plate i).dryRemaining ≤ 28800
  drawers : ∀ d, if (s.drawer d).state = .drying ∨ (s.drawer d).state = .opened
    then 1 ≤ (s.drawer d).remaining ∧ (s.drawer d).remaining ≤ 28800 else (s.drawer d).remaining = 0

/-- A channel counts only while its bank is READY, and pauses only while it is not (R94, R116). -/
def LitOk (s : State) : Prop :=
  ∀ c : Chan, ((s.chan c).state = .running → (s.bank c.bank).state = .ready)
    ∧ ((s.chan c).state = .paused → (s.bank c.bank).state ≠ .ready)

/-- The two channels of one lane pair (R101). -/
def Chan.partnerOf : Chan → Option Chan
  | .backA => some .backB | .backB => some .backA | .faceA => some .faceB | .faceB => some .faceA
  | .detack => none | .post => none

/-- A channel's record has just the fields its state gives it (R101, R102). -/
structure ChannelOk (k : Channel) : Prop where
  idle : k.state = .idle → k = Channel.idle
  slot : k.state ≠ .idle → k.slot.isSome = true ∧ k.limit.isSome = true
  need : k.state.isActive = true → k.need.isSome = true
  interval : k.interval.isSome = true ↔ k.state = .running
  result : k.result.isSome = true ↔ k.state = .stopped
  accumulator : k.accumulator ≤ 2 ^ 48 - 1
  badCount : k.badCount ≤ 3 ∧ (k.badCount = 3 → k.state = .failed)

/-- The channels, the due list and the transaction on the link agree (R101, R106, R107), and a wide pair goes together
(R104, R112, R114, R116 to R118). -/
structure LightOk (s : State) : Prop where
  records : ∀ c, ChannelOk (s.chan c)
  due : ∀ c : Chan, s.link.due[c.index].isSome = true →
    (s.chan c).state = .running ∧ (s.chan c).readOutstanding = true ∧ s.linkCarries c = false
  live : ∀ r ∈ s.link.busy, r.live = true → (s.chan r.chan).state = .running ∧ (s.chan r.chan).readOutstanding = true
  outstanding : ∀ c : Chan, (s.chan c).readOutstanding = true →
    s.link.due[c.index].isSome = true ∨ s.linkCarries c = true
  pairs : ∀ c d, (s.chan c).partner = some d → Chan.partnerOf c = some d ∧ (s.chan d).partner = some c
    ∧ (s.chan d).state = (s.chan c).state ∧ (s.chan d).slot = (s.chan c).slot ∧ (s.chan d).need = (s.chan c).need
    ∧ (s.chan d).limit = (s.chan c).limit

/-- The phases of the frame and the finisher agree with their channels (R78, R79, R83, R86, R155, R158). -/
structure PhasesOk (s : State) : Prop where
  backIdle : s.frame.state = .empty ∨ s.frame.state = .loaded →
    (s.chan .backA).state = .idle ∧ (s.chan .backB).state = .idle
  faceIdle : s.frame.state ≠ .faceRun → s.frame.state ≠ .faceEnd →
    (s.chan .faceA).state = .idle ∧ (s.chan .faceB).state = .idle
  backRuns : (s.chanActive .backA || s.chanActive .backB) = decide (s.frame.state = .backRun)
  faceRuns : (s.chanActive .faceA || s.chanActive .faceB) = decide (s.frame.state = .faceRun)
  finishIdle : s.finisher.state = .empty ∨ s.finisher.state = .loaded →
    (s.chan .detack).state = .idle ∧ (s.chan .post).state = .idle
  finishRuns : (s.chanActive .detack || s.chanActive .post) = decide (s.finisher.state = .running)
  lanes : ∀ c l, c.lane = some l → (s.chan c).state ≠ .idle →
    (s.chan c).slot = (s.frame.lane l).slot ∧ (s.chan c).partner.isSome = s.frame.isWide
  positions : ∀ c, c.lane = none → (s.chan c).state ≠ .idle → (s.chan c).slot = s.finisher.slot

end Sys2Proof.Machine
end

