-- ==== Sys2Proof/Certificates/Slice0/Obligations.lean ====
section
/-! DEFINITION. The statements for the provers. Each docstring names the rules of spec/ that it states; OBLIGATIONS.json
says which sentence. Where a clause rests on a convention of the model, the docstring names the log entry. Every statement
about a granted command gives its reply by `State.replied`, or by `State.answeredAtOnce`: that one filler byte comes before
the reply is the model's (log entry 4). That a row which names an arrived frame is the arrival of that frame's last byte is
the model's too (log entry 12); `LastByteDue` says when that byte is due. That a row which the part could not have in a
state leaves that state is the model's wherever a statement says so (log entry 2), and so is the reading of a reply's bytes
modulo what they can hold (log entry 20). -/

open Sys2Proof Sys2Proof.Machine

/-! ### The step, the frames and the encodings -/

/-- The event at the front of the queue happens, on the state with the queue's rest; with an empty queue the part idles
(log entry 3). -/
def Obligations.StepRunsTheFrontEvent : Prop :=
  (∀ (c : Instr) (rest : List Instr) (s : State), step { s with pending := c :: rest } = exec c { s with pending := rest })
    ∧ ∀ s : State, s.pending = [] → step s = .next s

/-- Every row has a next state in every state, and leaves the queue of rows as it is. This is the model's choice
throughout: a row that has no event in a state leaves that state (log entry 2), and the queue is the model's own, which
POWER_ON_RESET keeps like every other row (log entries 9 and 19). -/
def Obligations.EveryRowCompletesAndKeepsTheQueue : Prop :=
  ∀ (c : Instr) (s : State), ∃ t, exec c s = .next t ∧ t.pending = s.pending

/-- The frame of every well-formed command is read back as that command on its port, with every operand. -/
def Obligations.EveryFrameReadsBack : Prop :=
  ∀ (c : Instr) (p : Port), c.wellFormed = true → commandPort c = some p →
    (∀ q code params, c ≠ .arbiterWait q code params) → (∀ q code, c ≠ .unknownCommand q code) →
    (∀ q code params, c ≠ .wrongPortCommand q code params) →
    decodeFrame p (frameBytes c) = some c

/-- A frame is read as a command only if it is that command's own frame, on a port that accepts it. -/
def Obligations.EveryReadingIsItsFrame : Prop :=
  ∀ (p : Port) (bytes : List Byte) (c : Instr), decodeFrame p bytes = some c →
    c.wellFormed = true ∧ commandPort c = some p ∧ frameBytes c = bytes

/-- A fall of SEL begins a frame. A rise of SEL ends the frame, and leaves the last-frame error that the table of R178 and
R179 give (R176, R178, R179). That each edge empties the record of the byte last clocked out and of its clocks is the
model's (log entry 11). -/
def Obligations.SelBeginsAndEndsAFrame : Prop :=
  (∀ (s : State) (p : Port), s.rstLow = false → (s.port p).selLow = false →
    exec (.selFall p) s =
      .next (s.modPort p fun q => { q with selLow := true, frame := .receiving [], dataOut := none, clocks := [] }))
  ∧ ∀ (s : State) (p : Port), (s.port p).selLow = true →
    ∃ e, exec (.selRise p) s =
        .next (s.modPort p fun q =>
          { q with selLow := false, frame := .idle, dataOut := none, clocks := [], lastError := e })
      ∧ ((s.port p).frame = .idle → e = (s.port p).lastError)
      ∧ ((s.port p).frame = .receiving [] → e = (s.port p).lastError)
      ∧ (∀ b bs, (s.port p).frame = .receiving (b :: bs) → e = .frameShort)
      ∧ (∀ bs, (s.port p).frame = .waiting bs → e = .frameShort)
      ∧ (∀ n b bs, (s.port p).frame = .answering n (b :: bs) true → e = .replyCut)
      ∧ (∀ n acted, (s.port p).frame = .answering n [] acted → e = (s.port p).lastError)
      ∧ (∀ n bs, (s.port p).frame = .answering n bs false → e = (s.port p).lastError)

/-- BYTE_ARRIVAL of a byte that completes a frame does what the row that names the completed frame does. That the two
rows are one event is the model's choice (log entry 12); which row it is follows the command's code, its port and the
length of its frame (11.2, 11.7.1). -/
def Obligations.LastByteIsTheCommandsRow : Prop :=
  ∀ (s : State) (p : Port) (b code : Byte) (got params : List Byte), s.rstLow = false → (s.port p).selLow = true →
    (s.port p).frame = .receiving got → got ++ [b] = code :: params →
    (commandRow code = none → params = [] → exec (.byteArrival p b) s = exec (.unknownCommand p code) s)
    ∧ ∀ row, commandRow code = some row → params.length = row.params →
      (accepted p row = false → exec (.byteArrival p b) s = exec (.wrongPortCommand p code params) s)
      ∧ (accepted p row = true → row.arbiter = true →
          exec (.byteArrival p b) s = exec (.arbiterWait p code params) s)
      ∧ (accepted p row = true → row.arbiter = false →
          ∀ c, decodeFrame p (code :: params) = some c → exec (.byteArrival p b) s = exec c s)

/-- A byte that does not complete a frame is kept, with 0xFF clocked out; while a command waits it is ignored, with
filler clocked out; with SEL high no byte is clocked; and where SEL is low with no frame in progress the byte clocked
out is free (R176, R177, R182; log entries 5 and 8). The byte that is kept is the one that its eight clocks bring in,
most significant bit first (R176). -/
def Obligations.ByteBeforeTheReply : Prop :=
  (∀ (s : State) (p : Port) (b : Byte), s.rstLow = false → (s.port p).selLow = true →
    (∀ got code params row, (s.port p).frame = .receiving got → got ++ [b] = code :: params →
      commandRow code = some row → params.length < row.params →
      exec (.byteArrival p b) s =
        .next (s.modPort p fun q => { q.clocked b 0xFF with frame := .receiving (code :: params) }))
    ∧ (∀ bytes, (s.port p).frame = .waiting bytes →
      exec (.byteArrival p b) s = .next (s.modPort p fun q => q.clocked b 0xFF))
    ∧ ((s.port p).frame = .idle →
      exec (.byteArrival p b) s = .next
        { s.modPort p fun q => q.clocked b (Config.strayByte s.strayCount) with
          strayCount := s.strayCount + 1 }))
  ∧ (∀ (s : State) (p : Port) (b : Byte), (s.port p).selLow = false → exec (.byteArrival p b) s = .next s)
  ∧ ∀ sent out : Byte, receivedByte (eightClocks sent out) = sent

/-- Behind a formed reply: one filler byte (log entry 4), the reply byte by byte, and 0x00 until SEL rises; the bytes
that the master sends are ignored. Each byte clocked in is paired with the byte clocked out: in each of eight clocks one
bit of either passes, most significant bit first (R176, R177). -/
def Obligations.ReplyIsClockedOut : Prop :=
  (∀ (s : State) (p : Port) (reply sent : List Byte) (acted : Bool), s.rstLow = false → (s.port p).selLow = true →
    (s.port p).frame = .answering 1 reply acted →
    (s.clockBytes p sent).2 = ((0xFF :: reply ++ List.replicate sent.length 0x00).take sent.length).map some
    ∧ ∃ f d k, (s.clockBytes p sent).1 = s.modPort p fun q => { q with frame := f, dataOut := d, clocks := k })
  ∧ ∀ (s : State) (p : Port) (b : Byte), s.rstLow = false → (s.port p).selLow = true →
    ∃ t out, exec (.byteArrival p b) s = .next t ∧ (t.port p).dataOut = some out
      ∧ (t.port p).clocks = (List.range 8).map fun n => ⟨b.getLsbD (7 - n), out.getLsbD (7 - n)⟩

/-- A complete command that is not exempt waits at the arbiter (R18). -/
def Obligations.CompleteCommandWaits : Prop :=
  ∀ (s : State) (p : Port) (code : Byte) (params : List Byte), arbiterFrameOk p code params = true →
    LastByteDue (.arbiterWait p code params) s →
    exec (.arbiterWait p code params) s =
      .next (s.modPort p fun q => { q.clocked (params.getLastD code) 0xFF with frame := .waiting (code :: params) })

/-- An unknown code and a command of another port are answered at once, behind one filler byte, and change nothing else
(R179). -/
def Obligations.UnknownAndWrongPortAreAnswered : Prop :=
  (∀ (s : State) (p : Port) (code : Byte), commandRow code = none → LastByteDue (.unknownCommand p code) s →
    exec (.unknownCommand p code) s =
      .next (s.modPort p fun q => { q.clocked code 0xFF with frame := .answering 1 [0x10] false }))
  ∧ ∀ (s : State) (p : Port) (code : Byte) (params : List Byte), wrongPortFrameOk p code params = true →
    LastByteDue (.wrongPortCommand p code params) s →
    exec (.wrongPortCommand p code params) s =
      .next (s.modPort p fun q => { q.clocked (params.getLastD code) 0xFF with frame := .answering 1 [0x11] false })

/-! ### Power-on -/

/-- A low RST puts every block in its power-on state and abandons every frame; a rise of RST lets the part go on (R182).
The levels of SEL and the waiting events are not the part's (log entry 9). While RST is low nothing but the SEL lines
moves: a fall of SEL begins no frame, a rise ends none, and every other row but a further POWER_ON_RESET and RST_RISE
leaves the state as it is (log entry 7). A fall of a SEL that is low and a rise of a SEL that is high leave the state as it
is (log entry 2). -/
def Obligations.PowerOnResetThenRstRise : Prop :=
  (∀ s : State, exec .powerOnReset s =
    .next { State.reset with
      rstLow := true
      ports := s.ports.map fun q => { selLow := q.selLow }
      strayCount := s.strayCount
      pending := s.pending })
  ∧ (∀ s : State, exec .rstRise s = .next { s with rstLow := false })
  ∧ (∀ (c : Instr) (s : State), s.rstLow = true → c ≠ .powerOnReset → c ≠ .rstRise → (∀ p, c ≠ .selFall p) →
    (∀ p, c ≠ .selRise p) → exec c s = .next s)
  ∧ (∀ (s : State) (p : Port), s.rstLow = true → (s.port p).selLow = false →
    exec (.selFall p) s = .next (s.modPort p fun q => { q with selLow := true }))
  ∧ (∀ (s : State) (p : Port), (s.port p).selLow = true → exec (.selFall p) s = .next s)
  ∧ (∀ (s : State) (p : Port), s.rstLow = true → (s.port p).selLow = true → (s.port p).frame = .idle →
    (s.port p).dataOut = none → (s.port p).clocks = [] →
    exec (.selRise p) s = .next (s.modPort p fun q => { q with selLow := false }))
  ∧ ∀ (s : State) (p : Port), (s.port p).selLow = false → exec (.selRise p) s = .next s

/-- What the manual says of the part after a power-on reset (R25, R37, R66, R100, R121, R141, R153, R163, R174, R182,
R186 and the defaults of 11.6.1). -/
def Obligations.ResetLeavesThePowerOnState : Prop :=
  (∀ i, State.reset.plate i = Plate.cleared ∧ (State.reset.plate i).state = .free)
  ∧ (∀ t, State.reset.typeRec t = TypeRec.cleared ∧ (State.reset.typeRec t).valid = false)
  ∧ State.reset.pointer = .P
  ∧ (∀ l, State.reset.waitList l = []) ∧ State.reset.transit = []
  ∧ State.reset.frame = ⟨.empty, ⟨none, false, false⟩, ⟨none, false, false⟩⟩
  ∧ (∀ b, State.reset.bank b = ⟨.off, 0, none⟩)
  ∧ (∀ c, (State.reset.chan c).state = .idle ∧ (State.reset.chan c).accumulator = 0
      ∧ (State.reset.chan c).readOutstanding = false ∧ State.reset.stopAsserted c = true
      ∧ State.reset.link.due[c.index] = none)
  ∧ State.reset.link.busy = none
  ∧ State.reset.solvent = ⟨none, .unknown, false⟩
  ∧ (∀ d, State.reset.drawer d = ⟨.empty, none, 0⟩)
  ∧ State.reset.finisher = ⟨.empty, none, false, false⟩
  ∧ (∀ p, (State.reset.port p).lastError = .none ∧ (State.reset.port p).frame = .idle
      ∧ (State.reset.port p).attn = ⟨[], none, 0, false⟩ ∧ State.reset.atn p = false)
  ∧ State.reset.config =
      #v[10, 90, 90, 120, 120, 760, 1270, 25, 1200, 40, 600, 300, 250, 300, 220, 300]

/-! ### The attention commands -/

/-- READ_STATUS answers six bytes of status, then clears the last-frame error and OVERRUN (R181); PORT_RESET empties the
port's attention state and clears its last-frame error (R183). -/
def Obligations.StatusAndPortReset : Prop :=
  (∀ (s : State) (p : Port), LastByteDue (.readStatus p) s →
    exec (.readStatus p) s = .next (s.answeredAtOnce p 0x01
      { s.port p with lastError := .none, attn := { (s.port p).attn with overrun := false } } 0x00
      [(match (s.port p).lastError with
          | .none => 0
          | .frameShort => 1
          | .replyCut => 2),
        if (s.port p).attn.overrun then 1 else 0,
        if (s.port p).attn.frozen.isSome then 1 else 0,
        ((s.port p).attn.inService.setWidth 16).extractLsb' 8 8,
        ((s.port p).attn.inService.setWidth 16).extractLsb' 0 8,
        BitVec.ofNat 8 (s.port p).attn.queue.length]))
  ∧ ∀ (s : State) (p : Port), LastByteDue (.portReset p) s →
    exec (.portReset p) s =
      .next (s.answeredAtOnce p 0x05 { s.port p with lastError := .none, attn := ⟨[], none, 0, false⟩ } 0x00 [])

/-- EVT_FREEZE freezes the first entry when one is eligible, answers a frozen entry again, and otherwise answers NONE
(R169). -/
def Obligations.FreezeSelectsTheFirstEligible : Prop :=
  ∀ (s : State) (p : Port), LastByteDue (.evtFreeze p) s → AttentionOk (s.port p).attn →
    (∀ x ∈ (s.port p).attn.queue, (s.port p).attn.frozen = some x.key →
      exec (.evtFreeze p) s = .next (s.answeredAtOnce p 0x02 (s.port p) 0x00 (eventBytes x)))
    ∧ (∀ x rest, (s.port p).attn.frozen = none → (s.port p).attn.queue = x :: rest →
      (∃ y ∈ (s.port p).attn.queue, (s.port p).attn.eligibleClass y.cls = true) →
      exec (.evtFreeze p) s = .next (s.answeredAtOnce p 0x02
        { s.port p with attn := { (s.port p).attn with frozen := some x.key } } 0x00 (eventBytes x)))
    ∧ ((s.port p).attn.frozen = none → (∀ y ∈ (s.port p).attn.queue, (s.port p).attn.eligibleClass y.cls = false) →
      exec (.evtFreeze p) s = .next (s.answeredAtOnce p 0x02 (s.port p) 0x24 []))

/-- EVT_TAKE removes the frozen entry, and its class is in service; without a frozen entry it answers NOT_FROZEN
(R170). -/
def Obligations.TakeRemovesTheFrozenEntry : Prop :=
  ∀ (s : State) (p : Port), LastByteDue (.evtTake p) s → AttentionOk (s.port p).attn →
    (∀ pre x post, (s.port p).attn.queue = pre ++ x :: post → (s.port p).attn.frozen = some x.key →
      ∃ v : BitVec 9, (∀ n, v.getLsbD n = ((s.port p).attn.inService.getLsbD n || n == x.cls.rank))
        ∧ exec (.evtTake p) s = .next (s.answeredAtOnce p 0x03
          { s.port p with attn := { (s.port p).attn with queue := pre ++ post, frozen := none, inService := v } }
          0x00 (eventBytes x)))
    ∧ ((s.port p).attn.frozen = none →
      exec (.evtTake p) s = .next (s.answeredAtOnce p 0x03 (s.port p) 0x23 []))

/-- EVT_DONE removes the highest-priority class in service and answers it; with none in service it answers NONE
(R171). -/
def Obligations.DoneRemovesTheTopClass : Prop :=
  ∀ (s : State) (p : Port), LastByteDue (.evtDone p) s →
    (∀ n < 9, (s.port p).attn.inService.getLsbD n = true → (∀ m < n, (s.port p).attn.inService.getLsbD m = false) →
      ∃ v : BitVec 9, (∀ m, v.getLsbD m = ((s.port p).attn.inService.getLsbD m && m != n))
        ∧ exec (.evtDone p) s = .next (s.answeredAtOnce p 0x04
          { s.port p with attn := { (s.port p).attn with inService := v } } 0x00 [BitVec.ofNat 8 n]))
    ∧ ((∀ n < 9, (s.port p).attn.inService.getLsbD n = false) →
      exec (.evtDone p) s = .next (s.answeredAtOnce p 0x04 (s.port p) 0x24 []))

/-- An entry is eligible when its class outranks every class in service, and ATN is asserted while the queue holds one
(R168; not while RST is low, R182). The other output pins follow the state in the same way: a STOP line is asserted
exactly while its channel is IDLE, STOPPED or FAILED, and so released while it is RUNNING or PAUSED (R103), and data out
is driven exactly while SEL is low and RST is not (R182, 11.9). -/
def Obligations.AtnFollowsEligibility : Prop :=
  (∀ (s : State) (p : Port), s.atn p = true ↔
    s.rstLow = false ∧ ∃ x ∈ (s.port p).attn.queue,
      ∀ n < 9, (s.port p).attn.inService.getLsbD n = true → x.cls.rank < n)
  ∧ (∀ (s : State) (c : Chan), (s.stopAsserted c = true ↔ (s.chan c).state ∈ [ChanState.idle, .stopped, .failed])
    ∧ (s.stopAsserted c = false ↔ (s.chan c).state ∈ [ChanState.running, .paused]))
  ∧ ∀ (s : State) (p : Port), s.dataOutDriven p = true ↔ (s.port p).selLow = true ∧ s.rstLow = false

/-- An arrival merges into the entry of its class and slot: the entry keeps its place, its parameter is the arrival's,
and its count rises by 1 and stays at 15 (R166). -/
def Obligations.ArrivalMerges : Prop :=
  ∀ (a : Attention) (e : Event) (pre post : List Entry) (x : Entry), AttentionOk a → a.queue = pre ++ x :: post →
    x.cls = e.cls → x.slot = e.slot →
    a.arrive e = { a with queue :=
      pre ++ ⟨x.cls, x.slot, e.param, if x.recurrence < 15 then x.recurrence + 1 else 15⟩ :: post }

/-- A new arrival at a queue with room stands behind every entry of its own or a higher class and ahead of every entry of
a lower class (R167 case 1). An event posted to a port arrives at that port's queue, with its class, slot and parameter, and
touches nothing else: no other port and no other part of the port's record (R165). -/
def Obligations.ArrivalIsPlacedByClass : Prop :=
  (∀ (a : Attention) (e : Event) (before after : List Entry), AttentionOk a →
    (∀ x ∈ a.queue, x.cls = e.cls → x.slot ≠ e.slot) → a.queue.length < 16 → a.queue = before ++ after →
    (∀ x ∈ before, x.cls.rank ≤ e.cls.rank) → (∀ x ∈ after, e.cls.rank < x.cls.rank) →
    a.arrive e = { a with queue := before ++ ⟨e.cls, e.slot, e.param, 0⟩ :: after })
  ∧ ∀ (s : State) (p : Port) (e : Event),
    (∃ ports, s.post p e = { s with ports := ports })
    ∧ (s.post p e).port p = { s.port p with attn := (s.port p).attn.arrive e }
    ∧ ∀ q, q ≠ p → (s.post p e).port q = s.port q

/-- A full queue: the newest entry of the lowest class that is not frozen gives way to an arrival of a higher class, and
otherwise the arrival is dropped; either drop sets OVERRUN (R167 cases 2 and 3). -/
def Obligations.ArrivalAtAFullQueue : Prop :=
  ∀ (a : Attention) (e : Event), AttentionOk a → a.queue.length = 16 →
    (∀ x ∈ a.queue, x.cls = e.cls → x.slot ≠ e.slot) →
    (∀ pre d post before after, a.queue = pre ++ d :: post → a.frozen ≠ some d.key → e.cls.rank < d.cls.rank →
      (∀ x ∈ pre, a.frozen ≠ some x.key → x.cls.rank ≤ d.cls.rank) →
      (∀ x ∈ post, a.frozen ≠ some x.key → x.cls.rank < d.cls.rank) →
      pre ++ post = before ++ after → (∀ x ∈ before, x.cls.rank ≤ e.cls.rank) →
      (∀ x ∈ after, e.cls.rank < x.cls.rank) →
      a.arrive e = { a with queue := before ++ ⟨e.cls, e.slot, e.param, 0⟩ :: after, overrun := true })
    ∧ ((∀ x ∈ a.queue, a.frozen ≠ some x.key → x.cls.rank ≤ e.cls.rank) →
      a.arrive e = { a with overrun := true })

/-! ### The arbiter -/

/-- The arbiter chooses the first port with a command waiting, from its pointer round the cycle P, E, W, D (R19). -/
def Obligations.ArbiterChoosesTheFirstWaiting : Prop :=
  ∀ s : State,
    (∀ p, s.arbiterChoice = some p ↔
      (∃ bytes, (s.port p).frame = .waiting bytes)
      ∧ ∀ q bytes, (s.port q).frame = .waiting bytes → q = p ∨ s.looksFirst p q)
    ∧ (s.arbiterChoice = none ↔ ∀ p bytes, (s.port p).frame ≠ .waiting bytes)
    ∧ arbiterCycle .P = [.P, .E, .W, .D] ∧ arbiterCycle .E = [.E, .W, .D, .P]
    ∧ arbiterCycle .W = [.W, .D, .P, .E] ∧ arbiterCycle .D = [.D, .P, .E, .W]

/-- A command that waits while another port is granted goes on waiting, and comes before that port, and before every port
it came before, at the next grant (R19). -/
def Obligations.WaitingCommandIsNotOvertaken : Prop :=
  ∀ (c : Instr) (s t : State) (p q : Port) (bytes : List Byte) (code : Byte) (params : List Byte) (row : CommandRow),
    Granted c s → commandPort c = some q → frameBytes c = code :: params →
    decodeFrame q (code :: params) = some c → commandRow code = some row → row.arbiter = true →
    exec c s = .next t → p ≠ q → (s.port p).frame = .waiting bytes →
    t.pointer = q.next ∧ (t.port p).frame = .waiting bytes
    ∧ ∀ r, r ≠ p → (r = q ∨ s.looksFirst p r) → t.looksFirst p r

/-- A granted or exempt command is answered with one result, which is not 0xFF, and with reply data only behind OK and
CLAMPED, in the amount of 11.7.1 (R177). -/
def Obligations.ReplyHasTheTablesLength : Prop :=
  ∀ (c : Instr) (s : State) (p : Port) (code : Byte) (params : List Byte) (row : CommandRow),
    commandPort c = some p → frameBytes c = code :: params → decodeFrame p (code :: params) = some c →
    commandRow code = some row → (if row.arbiter then Granted c s else LastByteDue c s) →
    ∃ t result data, exec c s = .next t ∧ (t.port p).frame = .answering 1 (result :: data) true ∧ result ≠ 0xFF
      ∧ data.length = if result = 0x00 ∨ result = 0x01 then row.replyData else 0

/-- A granted command whose result is neither OK nor CLAMPED changes nothing but its own reply and the arbiter's pointer
(the refusals of R1, R9, R14 to R16, R31, R67, R72, R80, R84, R91, R94, R129, R131, R133, R135, R145, R147, R150, R156,
R157, R159, R161, R185 and R186). -/
def Obligations.RefusalChangesNothing : Prop :=
  ∀ (c : Instr) (s t : State) (p : Port) (result : Byte) (data : List Byte), Granted c s → commandPort c = some p →
    exec c s = .next t → (t.port p).frame = .answering 1 (result :: data) true → result ≠ 0x00 → result ≠ 0x01 →
    t = s.replied p result []

/-! ### The Plate Table -/

/-- HOLD takes a waiting plate out of its list, sets hold_pending of an active plate, and is refused for any other
(R1, R8, R9). -/
def Obligations.HoldTakesEffect : Prop :=
  (∀ (s : State) (b : Byte), Granted (.hold b) s → 63 < b.toNat → exec (.hold b) s = .next (s.replied .P 0x12 []))
  ∧ ∀ (s : State) (b : Byte) (i : Slot), Granted (.hold b) s → b.toNat = i.val →
    (∀ (l : WaitList) (st : PlateState) (from_ : HeldFrom) (before after : List Slot),
      (l, st, from_) ∈ [(WaitList.exposure, PlateState.staged, HeldFrom.staged), (.wash, .exposed, .exposed),
        (.dryer, .washed, .washed), (.finisher, .dried, .dried)] →
      (s.plate i).state = st → s.waitList l = before ++ i :: after → i ∉ before → i ∉ after →
      exec (.hold b) s = .next (((s.setWaitList l (before ++ after)).modPlate i fun p =>
        { p with state := .held, holdPending := false, holdReason := some .operator, heldFrom := some from_ }).replied
          .P 0x00 []))
    ∧ ((s.plate i).state ∈ [PlateState.onFrame, .washing, .drying, .finishing] →
      exec (.hold b) s = .next ((s.modPlate i fun p => { p with holdPending := true }).replied .P 0x00 []))
    ∧ ((s.plate i).state ∈ [PlateState.free, .done, .held, .scrapped] →
      exec (.hold b) s = .next (s.replied .P 0x13 []))

/-- RELEASE sends a HELD plate to its held_from: STAGED joins the tail of its class, EXPOSED, WASHED and DRIED the tail
of their lists, each announced if it was empty; a pending hold is cancelled; any other plate is refused (R1, R13, R14,
R63). -/
def Obligations.ReleaseSendsThePlateOn : Prop :=
  (∀ (s : State) (b : Byte), Granted (.release b) s → 63 < b.toNat →
    exec (.release b) s = .next (s.replied .P 0x12 []))
  ∧ ∀ (s : State) (b : Byte) (i : Slot), Granted (.release b) s → b.toNat = i.val →
    (∀ r n, (s.plate i).state = .held → (s.plate i).heldFrom = some .staged → s.classes r n →
      exec (.release b) s = .next
        ((State.tellReady
          { s.modPlate i fun p => { p with state := .staged, holdReason := none, heldFrom := none } with
            exposureQ := if (s.plate i).rush then r ++ i :: n else r ++ n ++ [i] }
          s.exposureQ.isEmpty .E 0).replied .P 0x00 []))
    ∧ (∀ (l : WaitList) (st : PlateState) (from_ : HeldFrom) (q : Port) (param : Nat),
      (l, st, from_, q, param) ∈ [(WaitList.wash, PlateState.exposed, HeldFrom.exposed, Port.W, 3),
        (.dryer, .washed, .washed, .D, 1), (.finisher, .dried, .dried, .D, 2)] →
      (s.plate i).state = .held → (s.plate i).heldFrom = some from_ →
      exec (.release b) s = .next
        ((State.tellReady
          ((s.modPlate i fun p => { p with state := st, holdReason := none, heldFrom := none }).setWaitList l
            (s.waitList l ++ [i]))
          (s.waitList l).isEmpty q param).replied .P 0x00 []))
    ∧ ((s.plate i).state = .held → (s.plate i).heldFrom = some .done →
      exec (.release b) s = .next
        ((s.modPlate i fun p => { p with state := .done, holdReason := none, heldFrom := none }).replied .P 0x00 []))
    ∧ ((s.plate i).state ≠ .held → (s.plate i).holdPending = true →
      exec (.release b) s = .next ((s.modPlate i fun p => { p with holdPending := false }).replied .P 0x00 []))
    ∧ ((s.plate i).state ≠ .held → (s.plate i).holdPending = false →
      exec (.release b) s = .next (s.replied .P 0x13 []))

/-- SCRAP takes a waiting or HELD plate out of the flow, and is refused for an active plate and for any other; PURGE
clears the slot of a DONE or SCRAPPED plate that no drawer references (R1, R15, R16). -/
def Obligations.ScrapAndPurgeClearTheLine : Prop :=
  (∀ (s : State) (b : Byte), Granted (.scrap b) s → 63 < b.toNat → exec (.scrap b) s = .next (s.replied .P 0x12 []))
  ∧ (∀ (s : State) (b : Byte) (i : Slot), Granted (.scrap b) s → b.toNat = i.val →
    (∀ (l : WaitList) (st : PlateState) (before after : List Slot),
      (l, st) ∈ [(WaitList.exposure, PlateState.staged), (.wash, .exposed), (.dryer, .washed), (.finisher, .dried)] →
      (s.plate i).state = st → s.waitList l = before ++ i :: after → i ∉ before → i ∉ after →
      exec (.scrap b) s = .next (((s.setWaitList l (before ++ after)).modPlate i fun p =>
        { p with state := .scrapped, holdReason := none, heldFrom := none }).replied .P 0x00 []))
    ∧ ((s.plate i).state = .held →
      exec (.scrap b) s = .next ((s.modPlate i fun p =>
        { p with state := .scrapped, holdReason := none, heldFrom := none }).replied .P 0x00 []))
    ∧ ((s.plate i).state ∈ [PlateState.onFrame, .washing, .drying, .finishing] →
      exec (.scrap b) s = .next (s.replied .P 0x14 []))
    ∧ ((s.plate i).state ∈ [PlateState.free, .done, .scrapped] → exec (.scrap b) s = .next (s.replied .P 0x13 [])))
  ∧ (∀ (s : State) (b : Byte), Granted (.purge b) s → 63 < b.toNat → exec (.purge b) s = .next (s.replied .P 0x12 []))
  ∧ ∀ (s : State) (b : Byte) (i : Slot), Granted (.purge b) s → b.toNat = i.val →
    ((s.plate i).state ∈ [PlateState.done, .scrapped] → (∀ d, (s.drawer d).slot ≠ some i) →
      exec (.purge b) s = .next ((s.modPlate i fun _ => {}).replied .P 0x00 []))
    ∧ (∀ d, (s.plate i).state ∈ [PlateState.done, .scrapped] → (s.drawer d).slot = some i →
      exec (.purge b) s = .next (s.replied .P 0x14 []))
    ∧ ((s.plate i).state ∉ [PlateState.done, .scrapped] → exec (.purge b) s = .next (s.replied .P 0x13 []))

/-- READ_PLATE answers seventy bytes, laid out as 1.6.1 gives them, and changes nothing but the port's reply (R1, R24). That
a figure is read back less any excess over what its bytes can hold is the model's choice (log entry 20). The ranges that the
steps keep the figures in are EveryStepKeepsTheFiguresInRange's to state, and what the three estimates are formed from is
TheCalculatorFollowsItsFormulas's. -/
def Obligations.ReadPlateShowsTheRecord : Prop :=
  (∀ (s : State) (p : Port) (b : Byte), Granted (.readPlate p b) s → 63 < b.toNat →
    exec (.readPlate p b) s = .next (s.replied p 0x12 []))
  ∧ ∀ (s : State) (p : Port) (b : Byte) (i : Slot), Granted (.readPlate p b) s → b.toNat = i.val →
    ∃ data, exec (.readPlate p b) s = .next (s.replied p 0x00 data) ∧ data.length = 70
      ∧ byteOf data 0 = [PlateState.free, .staged, .onFrame, .exposed, .washing, .washed, .drying, .dried, .finishing,
          .done, .held, .scrapped].idxOf (s.plate i).state
      ∧ byteOf data 1 = (s.plate i).typeIx.val
      ∧ numberAt data 2 2 = (s.plate i).lot % 2 ^ 16
      ∧ byteOf data 4 = (s.plate i).copy % 2 ^ 8
      ∧ byteOf data 5 = (s.plate i).rush.toNat + 2 * (s.plate i).holdPending.toNat + 4 * (s.plate i).massCounted.toNat
      ∧ numberAt data 6 2 = (s.plate i).width % 2 ^ 16
      ∧ numberAt data 8 2 = (s.plate i).length % 2 ^ 16
      ∧ byteOf data 10 = (s.plate i).nonimage % 2 ^ 8
      ∧ (byteOf data 11 : Int) = (s.plate i).trim % 2 ^ 8
      ∧ numberAt data 12 2 = (s.plate i).relief % 2 ^ 16
      ∧ numberAt data 14 2 = (s.plate i).floor % 2 ^ 16
      ∧ numberAt data 16 2 = (s.plate i).backTarget % 2 ^ 16
      ∧ numberAt data 18 2 = (s.plate i).faceTarget % 2 ^ 16
      ∧ numberAt data 20 6 = (s.plate i).backDelivered % 2 ^ 48
      ∧ numberAt data 26 6 = (s.plate i).faceDelivered % 2 ^ 48
      ∧ numberAt data 32 6 = (s.plate i).detackDelivered % 2 ^ 48
      ∧ numberAt data 38 6 = (s.plate i).postDelivered % 2 ^ 48
      ∧ byteOf data 44 = (match (s.plate i).lane with
          | some .a => 0
          | some .b => 1
          | some .both => 2
          | none => 0xFF)
      ∧ numberAt data 45 2 = (s.plate i).speed.getD 0 % 2 ^ 16
      ∧ numberAt data 47 4 = (s.plate i).mass % 2 ^ 32
      ∧ numberAt data 51 2 = (s.plate i).dryRemaining % 2 ^ 16
      ∧ byteOf data 53 = (match (s.plate i).drawer with
          | some d => d.val
          | none => 0xFF)
      ∧ byteOf data 54 = (match (s.plate i).holdReason with
          | some .operator => 0
          | some .aborted => 1
          | some .doseShort => 2
          | some .sensor => 3
          | some .washFault => 4
          | some .wetRemoved => 5
          | none => 0xFF)
      ∧ byteOf data 55 = (match (s.plate i).heldFrom with
          | some .staged => 1
          | some .exposed => 3
          | some .washed => 5
          | some .dried => 7
          | some .done => 9
          | none => 0xFF)
      ∧ (∀ n : Fin 16, (numberAt data 56 2).testBit n.val = ([Mark.floorLow, .floorHigh, .coverClamp, .trimClamp,
          .faceClamp, .washShort, .washLong, .doseShort, .sensorSat, .sensorFail, .overdue][n.val]?.any
            (s.plate i).marks.has))
      ∧ numberAt data 58 4 =
          (if (s.plate i).state = .free then 0xFFFFFFFF else (s.backEstimate i).getD 0xFFFFFFFF) % 2 ^ 32
      ∧ numberAt data 62 4 =
          (if (s.plate i).state = .free then 0xFFFFFFFF else (s.faceEstimate i).getD 0xFFFFFFFF) % 2 ^ 32
      ∧ numberAt data 66 4 =
          (if (s.plate i).state = .free then 0xFFFFFFFF else (s.plateEstimate i).getD 0xFFFFFFFF) % 2 ^ 32

/-- READ_LINE answers eighty-three bytes, laid out as R184 gives them, and changes nothing but the port's reply (R184). That
a figure is read back less any excess over what its bytes can hold is the model's choice (log entry 20). -/
def Obligations.ReadLineShowsTheLine : Prop :=
  ∀ (s : State) (p : Port), Granted (.readLine p) s →
    ∃ data, exec (.readLine p) s = .next (s.replied p 0x00 data) ∧ data.length = 83
      ∧ byteOf data 0 = [FrameState.empty, .loaded, .backRun, .backEnd, .faceRun, .faceEnd].idxOf s.frame.state
      ∧ byteOf data 1 = (s.frame.laneA.slot.map (fun i => i.val)).getD 0xFF
      ∧ byteOf data 2 = (s.frame.laneB.slot.map (fun i => i.val)).getD 0xFF
      ∧ byteOf data 3 = s.frame.laneA.failure.toNat + 2 * s.frame.laneA.short.toNat + 4 * s.frame.laneB.failure.toNat
          + 8 * s.frame.laneB.short.toNat
      ∧ (∀ b : Bank, byteOf data (4 + 5 * b.index) = [BankState.off, .warming, .ready].idxOf (s.bank b).state
        ∧ numberAt data (5 + 5 * b.index) 2 =
          (if (s.bank b).state = .warming then (s.bank b).warm else 0) % 2 ^ 16
        ∧ numberAt data (7 + 5 * b.index) 2 = (s.bank b).ref.getD 0 % 2 ^ 16)
      ∧ (∀ c : Chan, byteOf data (24 + 3 * c.index) =
          [ChanState.idle, .running, .paused, .stopped, .failed].idxOf (s.chan c).state
        ∧ byteOf data (25 + 3 * c.index) = (match (s.chan c).state, (s.chan c).result with
          | .stopped, some .reached => 0
          | .stopped, some .timeLimit => 1
          | .stopped, some .aborted => 2
          | _, _ => 0xFF)
        ∧ byteOf data (26 + 3 * c.index) = ((s.chan c).slot.map (fun i => i.val)).getD 0xFF)
      ∧ byteOf data 42 = s.exposureQ.length % 2 ^ 8
      ∧ byteOf data 43 = (s.exposureQ.head?.map (fun i => i.val)).getD 0xFF
      ∧ byteOf data 44 = s.washQ.length % 2 ^ 8
      ∧ byteOf data 45 = (s.washQ.head?.map (fun i => i.val)).getD 0xFF
      ∧ byteOf data 46 = s.transit.length % 2 ^ 8
      ∧ (∀ n : Fin 3, byteOf data (47 + n) = (s.transit[n.val]?.map (fun e => e.slot.val)).getD 0xFF)
      ∧ byteOf data 50 = s.dryerQ.length % 2 ^ 8
      ∧ byteOf data 51 = (s.dryerQ.head?.map (fun i => i.val)).getD 0xFF
      ∧ byteOf data 52 = s.finisherQ.length % 2 ^ 8
      ∧ byteOf data 53 = (s.finisherQ.head?.map (fun i => i.val)).getD 0xFF
      ∧ (∀ d : DrawerIx, byteOf data (54 + 4 * d) =
          [DrawerState.empty, .drying, .opened, .dry].idxOf (s.drawer d).state
        ∧ byteOf data (55 + 4 * d) = ((s.drawer d).slot.map (fun i => i.val)).getD 0xFF
        ∧ numberAt data (56 + 4 * d) 2 = (s.drawer d).remaining % 2 ^ 16)
      ∧ byteOf data 70 = [FinisherState.empty, .loaded, .running, .ended].idxOf s.finisher.state
      ∧ byteOf data 71 = (s.finisher.slot.map (fun i => i.val)).getD 0xFF
      ∧ byteOf data 72 = s.finisher.failure.toNat + 2 * s.finisher.short.toNat
      ∧ byteOf data 73 = s.solvent.mass.isSome.toNat + 2 * s.solvent.warn.toNat
      ∧ byteOf data 74 = [Gate.opened, .spent, .unknown].idxOf s.solvent.gate
      ∧ numberAt data 75 4 = s.solvent.mass.getD 0 % 2 ^ 32
      ∧ numberAt data 79 4 = (s.solvent.mass.map (fun m => m / s.item .tankL)).getD 0 % 2 ^ 32

/-! ### The Type Table and the configuration -/

/-- WRITE_TYPE makes its checks in order, and then clears the record or stores the frame's figures, each but the
thickness and the curve brought into its range (R29 to R34). -/
def Obligations.WriteTypeChecksThenStores : Prop :=
  (∀ (s : State) (ix : Byte) (image : TypeImage), Granted (.writeType ix image) s → 15 < ix.toNat →
    exec (.writeType ix image) s = .next (s.replied .P 0x26 []))
  ∧ ∀ (s : State) (ix : Byte) (image : TypeImage) (t : Fin 16), Granted (.writeType ix image) s → ix.toNat = t.val →
    (1 < image.valid.toNat → exec (.writeType ix image) s = .next (s.replied .P 0x26 []))
    ∧ (image.valid.toNat ≤ 1 →
      ((∃ i, (s.plate i).typeIx = t ∧ (s.plate i).state ∉ [PlateState.free, .done, .scrapped]) →
        exec (.writeType ix image) s = .next (s.replied .P 0x18 []))
      ∧ ((∀ i, (s.plate i).typeIx = t → (s.plate i).state ∈ [PlateState.free, .done, .scrapped]) →
        (image.valid = 0 → exec (.writeType ix image) s = .next ((s.setType t {}).replied .P 0x00 []))
        ∧ (image.valid = 1 →
          (¬ (76 ≤ image.thickness.toNat ∧ image.thickness.toNat ≤ 700
              ∧ image.curve.toList.Pairwise (fun a b => a.dose < b.dose)
              ∧ image.curve.toList.Pairwise (fun a b => a.floor < b.floor)
              ∧ ∀ pt ∈ image.curve.toList, 1 ≤ pt.dose ∧ pt.floor < image.thickness.toNat) →
            exec (.writeType ix image) s = .next (s.replied .P 0x19 []))
          ∧ ((76 ≤ image.thickness.toNat ∧ image.thickness.toNat ≤ 700
              ∧ image.curve.toList.Pairwise (fun a b => a.dose < b.dose)
              ∧ image.curve.toList.Pairwise (fun a b => a.floor < b.floor)
              ∧ ∀ pt ∈ image.curve.toList, 1 ≤ pt.dose ∧ pt.floor < image.thickness.toNat) →
            ∃ r : TypeRec, r = {
                valid := true
                thickness := image.thickness.toNat
                curve := image.curve
                faceDose := max 1 image.faceDose.toNat
                backMaxS := max 1 image.backMaxS.toNat
                faceMaxS := max 1 image.faceMaxS.toNat
                rateFresh := max 10 (min 1000 image.rateFresh.toNat)
                sens := min 100 image.sens.toNat
                density := max 500 (min 2000 image.density.toNat)
                dryBase := min 480 image.dryBase.toNat
                drySlope := min 100 image.drySlope.toNat
                detackDose := max 1 image.detackDose.toNat
                postDose := max 1 image.postDose.toNat
                detackMaxS := max 1 image.detackMaxS.toNat
                postMaxS := max 1 image.postMaxS.toNat }
              ∧ exec (.writeType ix image) s =
                .next ((s.setType t r).replied .P (if r = image.unclamped then 0x00 else 0x01) [])))))

/-- READ_TYPE answers the forty-nine bytes of 2.4.1, and READ_CONFIG an item's stored value; neither changes anything but
the port's reply (R36, R186). That a figure is read back less any excess over what its bytes can hold is the model's choice
(log entry 20). -/
def Obligations.ReadTypeAndReadConfigShowWhatIsStored : Prop :=
  (∀ (s : State) (ix : Byte), Granted (.readType ix) s → 15 < ix.toNat →
    exec (.readType ix) s = .next (s.replied .P 0x26 []))
  ∧ (∀ (s : State) (ix : Byte) (t : Fin 16), Granted (.readType ix) s → ix.toNat = t.val →
    ∃ data, exec (.readType ix) s = .next (s.replied .P 0x00 data) ∧ data.length = 49
      ∧ byteOf data 0 = (s.typeRec t).valid.toNat
      ∧ numberAt data 1 2 = (s.typeRec t).thickness % 2 ^ 16
      ∧ (∀ n : Fin 6, numberAt data (3 + 4 * n) 2 = (s.typeRec t).curve[n].dose % 2 ^ 16
        ∧ numberAt data (5 + 4 * n) 2 = (s.typeRec t).curve[n].floor % 2 ^ 16)
      ∧ numberAt data 27 2 = (s.typeRec t).faceDose % 2 ^ 16
      ∧ numberAt data 29 2 = (s.typeRec t).backMaxS % 2 ^ 16
      ∧ numberAt data 31 2 = (s.typeRec t).faceMaxS % 2 ^ 16
      ∧ numberAt data 33 2 = (s.typeRec t).rateFresh % 2 ^ 16
      ∧ byteOf data 35 = (s.typeRec t).sens % 2 ^ 8
      ∧ numberAt data 36 2 = (s.typeRec t).density % 2 ^ 16
      ∧ numberAt data 38 2 = (s.typeRec t).dryBase % 2 ^ 16
      ∧ byteOf data 40 = (s.typeRec t).drySlope % 2 ^ 8
      ∧ numberAt data 41 2 = (s.typeRec t).detackDose % 2 ^ 16
      ∧ numberAt data 43 2 = (s.typeRec t).postDose % 2 ^ 16
      ∧ numberAt data 45 2 = (s.typeRec t).detackMaxS % 2 ^ 16
      ∧ numberAt data 47 2 = (s.typeRec t).postMaxS % 2 ^ 16)
  ∧ (∀ (s : State) (code : Byte), Granted (.readConfig code) s → 15 < code.toNat →
    exec (.readConfig code) s = .next (s.replied .P 0x26 []))
  ∧ ∀ (s : State) (code : Byte) (x : Item), Granted (.readConfig code) s → code.toNat = x.index.val →
    exec (.readConfig code) s = .next (s.replied .P 0x00 (word2 (s.item x)))

/-- SET_CONFIG brings the value into the item's range and then clamps it against the other item of its ordered pair,
stores what it finds, has the gate evaluated where one of the Washout Unit's four items has changed, and answers the
stored value (R185, 11.6.1). Where the value found is the one already stored, also one that a clamp has made equal to
it, no item has changed and the gate is not evaluated (log entry 17). -/
def Obligations.SetConfigStoresTheValueInRange : Prop :=
  (∀ (s : State) (code : Byte) (value : Word), Granted (.setConfig code value) s → 15 < code.toNat →
    exec (.setConfig code value) s = .next (s.replied .P 0x26 []))
  ∧ ∀ (s : State) (code : Byte) (value : Word) (x : Item) (lo hi v : Nat), Granted (.setConfig code value) s →
    code.toNat = x.index.val →
    (x, lo, hi) ∈ [(Item.sampleDiv, 1, 16), (.warmBack, 0, 600), (.warmFace, 0, 600), (.warmDetack, 0, 600),
      (.warmPost, 0, 600), (.laneWidth, 300, 1500), (.bedLength, 500, 2500), (.pairTol, 0, 100),
      (.brushLen, 200, 3000), (.vMin, 20, 1000), (.vMax, 100, 3000), (.tankL, 50, 2000), (.lWarn, 0, 1000),
      (.lHold, 1, 1000), (.lResume, 0, 999), (.washTail, 0, 1800)] →
    v = (match x with
      | .vMin => min (max lo (min hi value.toNat)) (s.item .vMax - 1)
      | .vMax => max (max lo (min hi value.toNat)) (s.item .vMin + 1)
      | .lResume => min (max lo (min hi value.toNat)) (s.item .lHold - 1)
      | .lHold => max (max lo (min hi value.toNat)) (s.item .lResume + 1)
      | _ => max lo (min hi value.toNat)) →
    exec (.setConfig code value) s =
      .next ((if v = s.item x then s
        else if x ∈ [Item.tankL, .lWarn, .lHold, .lResume] then (s.setItem x v).evaluateGate
        else s.setItem x v).replied .P (if v = value.toNat then 0x00 else 0x01) (word2 v))

/-! ### Staging and loading -/

/-- STAGE_LOT makes its checks in order; an accepted lot fills the lowest-numbered FREE slots with its copies, which join
the tail of their class in slot order, and the exposure queue is announced if it was empty (R2, R39 to R43, R57, R61,
R63, R65, R67 to R70). -/
def Obligations.StageLotStagesItsCopies : Prop :=
  (∀ (s : State) (lot : LotImage), Granted (.stageLot lot) s → 15 < lot.copiesLess1.toNat ∨ 1 < lot.rush.toNat →
    exec (.stageLot lot) s = .next (s.replied .P 0x26 []))
  ∧ (∀ (s : State) (lot : LotImage), Granted (.stageLot lot) s → lot.copiesLess1.toNat ≤ 15 → lot.rush.toNat ≤ 1 →
    15 < lot.typeIx.toNat → exec (.stageLot lot) s = .next (s.replied .P 0x17 []))
  ∧ ∀ (s : State) (lot : LotImage) (t : Fin 16), Granted (.stageLot lot) s → lot.copiesLess1.toNat ≤ 15 →
    lot.rush.toNat ≤ 1 → lot.typeIx.toNat = t.val →
    ((s.typeRec t).valid = false → exec (.stageLot lot) s = .next (s.replied .P 0x17 []))
    ∧ ((s.typeRec t).valid = true →
      (lot.relief.toNat = 0 ∨ (s.typeRec t).thickness ≤ lot.relief.toNat →
        exec (.stageLot lot) s = .next (s.replied .P 0x1A []))
      ∧ (1 ≤ lot.relief.toNat → lot.relief.toNat < (s.typeRec t).thickness →
        (lot.width.toNat = 0 ∨ 2 * s.item .laneWidth < lot.width.toNat ∨ lot.length.toNat = 0
            ∨ s.item .bedLength < lot.length.toNat → exec (.stageLot lot) s = .next (s.replied .P 0x1B []))
        ∧ (1 ≤ lot.width.toNat → lot.width.toNat ≤ 2 * s.item .laneWidth → 1 ≤ lot.length.toNat →
            lot.length.toNat ≤ s.item .bedLength →
          (s.plates.toList.countP (fun p => p.state == .free) < lot.copiesLess1.toNat + 1 →
            exec (.stageLot lot) s = .next (s.replied .P 0x16 []))
          ∧ ∀ (slots r n : List Slot) (first : Slot) (trim : Int) (floor face : Nat) (marks : Marks),
            slots.length = lot.copiesLess1.toNat + 1 → slots.Pairwise (fun i j => i < j) →
            (∀ i ∈ slots, (s.plate i).state = .free) →
            (∀ i j, (s.plate i).state = .free → i ∉ slots → j ∈ slots → j < i) → slots.head? = some first →
            s.classes r n → (∀ i ∈ s.exposureQ, (s.plate i).state ≠ .free) →
            trim = max (-20) (min 20 lot.trim.toInt) →
            floor = (s.typeRec t).thickness - lot.relief.toNat →
            face = faceDoseTrimmed (s.typeRec t).faceDose trim →
            marks = {
              floorLow := decide (floor < (s.typeRec t).curve[0].floor)
              floorHigh := decide ((s.typeRec t).curve[5].floor < floor)
              coverClamp := decide (100 < lot.nonimage.toNat)
              trimClamp := decide (trim ≠ lot.trim.toInt)
              faceClamp := decide (face < 1 ∨ 65535 < face) } →
            exec (.stageLot lot) s = .next
              ((State.tellReady
                { s with
                  plates := Vector.ofFn fun j => match slots.idxOf? j with
                    | some k => {
                        state := .staged
                        typeIx := t
                        lot := lot.lot.toNat
                        copy := k
                        rush := decide (lot.rush.toNat = 1)
                        width := lot.width.toNat
                        length := lot.length.toNat
                        nonimage := min 100 lot.nonimage.toNat
                        relief := lot.relief.toNat
                        trim := trim
                        floor := floor
                        backTarget := backTarget (s.typeRec t).curve floor
                        faceTarget := max 1 (min 65535 face)
                        mass := removedMass lot.width.toNat lot.length.toNat (min 100 lot.nonimage.toNat)
                          lot.relief.toNat (s.typeRec t).density
                        dryRemaining := drySeconds (s.typeRec t).dryBase (s.typeRec t).drySlope
                          (s.typeRec t).thickness
                        marks := marks }
                    | none => s.plate j
                  exposureQ := if lot.rush.toNat = 1 then r ++ slots ++ n else r ++ n ++ slots }
                s.exposureQ.isEmpty .E 0).replied .P (if marks = {} then 0x00 else 0x01)
                [nameOf first, lot.copiesLess1 + 1]))))

/-- LOAD_REQ places the head of the exposure queue, and in mode PAIR the first plate of the pairing window that may go
beside it, on an EMPTY frame (R71 to R76). -/
def Obligations.LoadReqPlacesTheHead : Prop :=
  (∀ (s : State) (mode : Byte), Granted (.loadReq mode) s → 1 < mode.toNat →
    exec (.loadReq mode) s = .next (s.replied .E 0x26 []))
  ∧ ∀ (s : State) (mode : Byte), Granted (.loadReq mode) s → mode.toNat ≤ 1 →
    (s.frame.state ≠ .empty → exec (.loadReq mode) s = .next (s.replied .E 0x13 []))
    ∧ (s.frame.state = .empty →
      (s.exposureQ = [] → exec (.loadReq mode) s = .next (s.replied .E 0x15 []))
      ∧ ∀ (head : Slot) (behind : List Slot), s.exposureQ = head :: behind → s.exposureQ.Nodup →
        (2 * s.item .laneWidth < (s.plate head).width ∨ s.item .bedLength < (s.plate head).length →
          exec (.loadReq mode) s = .next (s.replied .E 0x1B []))
        ∧ ((s.plate head).width ≤ 2 * s.item .laneWidth → (s.plate head).length ≤ s.item .bedLength →
          (s.item .laneWidth < (s.plate head).width →
            exec (.loadReq mode) s = .next
              ({ s.modPlate head fun p => { p with state := .onFrame, lane := some .both } with
                exposureQ := behind
                frame := ⟨.loaded, ⟨some head, false, false⟩, ⟨some head, false, false⟩⟩ }.replied .E 0x00
                [nameOf head, nameOf head, 1]))
          ∧ ((s.plate head).width ≤ s.item .laneWidth →
            (∀ pre mate post, mode = 1 → behind = pre ++ mate :: post → pre.length < 4 →
              (∀ j ∈ pre, ¬ ((s.plate j).width ≤ s.item .laneWidth ∧ (s.plate j).length ≤ s.item .bedLength
                ∧ compatible (s.item .pairTol) (s.plateEstimate head) (s.plateEstimate j) = true)) →
              (s.plate mate).width ≤ s.item .laneWidth → (s.plate mate).length ≤ s.item .bedLength →
              compatible (s.item .pairTol) (s.plateEstimate head) (s.plateEstimate mate) = true →
              exec (.loadReq mode) s = .next
                ({ (s.modPlate head fun p => { p with state := .onFrame, lane := some .a }).modPlate mate
                    fun p => { p with state := .onFrame, lane := some .b } with
                  exposureQ := pre ++ post
                  frame := ⟨.loaded, ⟨some head, false, false⟩, ⟨some mate, false, false⟩⟩ }.replied .E 0x00
                  [nameOf head, nameOf mate, 0]))
            ∧ (mode = 0 ∨ (∀ j ∈ behind.take 4, ¬ ((s.plate j).width ≤ s.item .laneWidth
                ∧ (s.plate j).length ≤ s.item .bedLength
                ∧ compatible (s.item .pairTol) (s.plateEstimate head) (s.plateEstimate j) = true)) →
              exec (.loadReq mode) s = .next
                ({ s.modPlate head fun p => { p with state := .onFrame, lane := some .a } with
                  exposureQ := behind
                  frame := ⟨.loaded, ⟨some head, false, false⟩, ⟨none, false, false⟩⟩ }.replied .E 0x00
                  [nameOf head, 0xFF, 0])))))

/-- The figures of the Process Calculator: rounding, ceiling, the back target on its segment, the two clamps of a curve,
the face target, the need, the estimate, the total and the tolerance comparison, the reference irradiance, the mass and
the dry time (0.6.5, R40, R41, R43 to R47, R51, R57, R61). A plate's back estimate is formed from its own back target and
back dose with the BACK bank's reference irradiance, its face estimate from its face target and face dose with the FACE
bank's, and its total from the two (R45, R46; read by READ_PLATE, R24, and by the pairing scan, R75). With figures in their
ranges an estimate is at most 6,553,500 seconds (R45), and so a total at most twice that. -/
def Obligations.TheCalculatorFollowsItsFormulas : Prop :=
  (∀ n d x, 0 < d → (roundDiv n d = x ↔ (2 * x - 1) * d ≤ 2 * n ∧ 2 * n < (2 * x + 1) * d))
  ∧ (∀ n d x, 0 < d → (ceilDiv n d ≤ x ↔ n ≤ x * d))
  ∧ (∀ (curve : Vector CurvePoint 6) (f : Nat), f < curve[0].floor → backTarget curve f = curve[0].dose)
  ∧ (∀ (curve : Vector CurvePoint 6) (f : Nat), curve[0].floor ≤ f → curve[5].floor < f →
      backTarget curve f = curve[5].dose)
  ∧ (∀ (curve : Vector CurvePoint 6) (f : Nat) (k : Fin 5), curve.toList.Pairwise (fun a b => a.floor < b.floor) →
      curve.toList.Pairwise (fun a b => a.dose < b.dose) → curve[k.castSucc].floor ≤ f → f ≤ curve[k.succ].floor →
      (k.val = 0 ∨ curve[k.castSucc].floor < f) →
      backTarget curve f = roundDiv (curve[k.castSucc].dose * (curve[k.succ].floor - curve[k.castSucc].floor)
        + (f - curve[k.castSucc].floor) * (curve[k.succ].dose - curve[k.castSucc].dose))
        (curve[k.succ].floor - curve[k.castSucc].floor))
  ∧ (∀ (dose : Nat) (trim : Int), -20 ≤ trim → trim ≤ 20 →
      (faceDoseTrimmed dose trim : Int) = (2 * ((dose : Int) * (100 + trim)) + 100) / 200)
  ∧ (∀ target delivered : Nat, phaseNeed target delivered = 100000 * (target : Int) - delivered)
  ∧ (∀ need, estimate none need = none)
  ∧ (∀ r need, need ≤ 0 → estimate (some r) need = some 0)
  ∧ (∀ (r : Nat) (need : Int), 0 < r → 0 < need → ∃ e, estimate (some r) need = some e ∧ need ≤ (e : Int) * r * 1000
      ∧ ((e : Int) - 1) * r * 1000 < need)
  ∧ (∀ a b, totalEstimate a b = a.bind fun x => b.map fun y => x + y)
  ∧ (∀ tol a b, compatible tol (some a) (some b) = true ↔ (max a b - min a b) * 100 ≤ tol * max a b)
  ∧ (∀ tol a, compatible tol none a = true ∧ compatible tol a none = true)
  ∧ (∀ a e, referenceOf a e = max 1 (roundDiv a e))
  ∧ (∀ w l n relief density, removedMass w l n relief density
      = (2 * (w * l / 100 * n * (10 * relief) * density) + 100000000) / 200000000)
  ∧ (∀ base slope thickness, drySeconds base slope thickness
      = 60 * max 10 (min 480 (base + (thickness * slope + 99) / 100)))
  ∧ (∀ (s : State) (i : Slot), s.backEstimate i
      = estimate (s.bank .back).ref (100000 * ((s.plate i).backTarget : Int) - (s.plate i).backDelivered))
  ∧ (∀ (s : State) (i : Slot), s.faceEstimate i
      = estimate (s.bank .face).ref (100000 * ((s.plate i).faceTarget : Int) - (s.plate i).faceDelivered))
  ∧ (∀ (s : State) (i : Slot), s.plateEstimate i
      = (s.backEstimate i).bind fun x => (s.faceEstimate i).map fun y => x + y)
  ∧ ∀ (s : State) (i : Slot), PlatesOk s → BanksInRange s →
      (∀ e ∈ s.backEstimate i, e ≤ 6553500) ∧ (∀ e ∈ s.faceEstimate i, e ≤ 6553500)
      ∧ ∀ e ∈ s.plateEstimate i, e ≤ 13107000

/-! ### Lamp banks -/

/-- BANK_ON and BANK_OFF refuse a bank that does not exist or that another port owns. BANK_ON of an OFF bank begins its
warm-up, or with a warm time of 0 makes it READY at once, so that its PAUSED channels resume; of any other bank it
changes nothing. BANK_OFF makes the bank OFF, and its RUNNING channels pause: the interval is abandoned and the read
withdrawn or to be discarded (R94 to R98, R106, R116, R117). That a paused channel's read outstanding flag stays set while
its read is on the link, and is cleared at once where the read was still in the due list, is the model's reading (log entry
21). -/
def Obligations.BanksAreSwitched : Prop :=
  (∀ (s : State) (p : Port) (code : Byte), Granted (.bankOn p code) s → 3 < code.toNat →
    exec (.bankOn p code) s = .next (s.replied p 0x26 []))
  ∧ (∀ (s : State) (p : Port) (code : Byte), Granted (.bankOff p code) s → 3 < code.toNat →
    exec (.bankOff p code) s = .next (s.replied p 0x26 []))
  ∧ ∀ (s : State) (p q : Port) (code : Byte) (b : Bank) (warmTime : Item), code.toNat = b.index.val →
    (b, q, warmTime) ∈ [(Bank.back, Port.E, Item.warmBack), (.face, .E, .warmFace), (.detack, .D, .warmDetack),
      (.post, .D, .warmPost)] →
    (Granted (.bankOn p code) s →
      (p ≠ q → exec (.bankOn p code) s = .next (s.replied p 0x11 []))
      ∧ (p = q →
        ((s.bank b).state ≠ .off → exec (.bankOn p code) s = .next (s.replied p 0x00 []))
        ∧ ((s.bank b).state = .off → 0 < s.item warmTime →
          exec (.bankOn p code) s = .next
            ((s.modBank b fun k => ⟨.warming, s.item warmTime, k.ref⟩).replied p 0x00 []))
        ∧ ((s.bank b).state = .off → s.item warmTime = 0 →
          exec (.bankOn p code) s = .next
            ((((s.modBank b fun k => ⟨.ready, 0, k.ref⟩).post q ⟨.bankReady, none, b.index⟩).mapChans fun c k =>
              if c.bank = b ∧ k.state = .paused then
                { k with state := .running, interval := some (10 * s.item .sampleDiv) }
              else k).replied p 0x00 []))))
    ∧ (Granted (.bankOff p code) s →
      (p ≠ q → exec (.bankOff p code) s = .next (s.replied p 0x11 []))
      ∧ (p = q →
        exec (.bankOff p code) s = .next
          ((State.mapChans
            { s.modBank b fun k => ⟨.off, 0, k.ref⟩ with
              link := s.link.without fun c => decide (c.bank = b ∧ (s.chan c).state = .running) }
            fun c k =>
              if c.bank = b ∧ k.state = .running then
                { k with state := .paused, interval := none, readOutstanding := s.linkCarries c && k.readOutstanding }
              else k).replied p 0x00 [])))

/-! ### The exposure frame -/

/-- START_BACK is refused unless the frame is LOADED and the BACK bank READY. It starts the back channel of each lane
that holds a plate, or the pair of a wide plate, with the plate's need and its type's time limit; a channel without a
need stops REACHED at once, lane A's first (log entry 6); where none is left RUNNING the phase ends at once (R80, R81,
R83, R104). -/
def Obligations.StartBackStartsTheBackPhase : Prop :=
  ∀ s : State, Granted .startBack s →
    (s.frame.state ≠ .loaded → exec .startBack s = .next (s.replied .E 0x13 []))
    ∧ (s.frame.state = .loaded → (s.bank .back).state ≠ .ready →
      exec .startBack s = .next (s.replied .E 0x1C []))
    ∧ (s.frame.state = .loaded → (s.bank .back).state = .ready → LightOk s → PhasesOk s → DosesOk s →
      ∀ need limit ts, (need = fun i => phaseNeed (s.plate i).backTarget (s.plate i).backDelivered) →
        (limit = fun i => 1000 * (s.plateType i).backMaxS) → ts = 10 * s.item .sampleDiv →
      (∀ a b runs, s.frame.laneA.slot = a → s.frame.laneB.slot = b → (a = none ∨ a ≠ b) →
        runs = (startsRunning a need || startsRunning b need) →
        exec .startBack s = .next
          ((State.postAll
            { s with
              chans := (s.chans.set 0 (startedFor a need limit ts)).set 1 (startedFor b need limit ts)
              frame := { s.frame with state := if runs then .backRun else .backEnd } }
            .E (stopsAtStart a need .backA ++ stopsAtStart b need .backB
              ++ if runs then [] else [⟨.phaseEnd, a, 0⟩])).replied .E 0x00 []))
      ∧ ∀ i, s.frame.laneA.slot = some i → s.frame.laneB.slot = some i →
        exec .startBack s = .next
          ((State.postAll
            { s with
              chans := (s.chans.set 0 (startOutcome i (some .backB) (need i) (limit i) ts)).set 1
                (startOutcome i (some .backA) (need i) (limit i) ts)
              frame := { s.frame with state := if 0 < need i then .backRun else .backEnd } }
            .E (if 0 < need i then [] else [⟨.channelStop, some i, 0⟩, ⟨.phaseEnd, some i, 0⟩])).replied .E 0x00 []))

/-- START_FACE is refused unless the frame is in BACK_END and the FACE bank READY. It starts the face channel of each
lane that holds a plate and has no failure mark, or the pair of a wide plate if neither lane has one, as START_BACK does
for the back phase, lane A's first (log entry 6; R84 to R86, R104). -/
def Obligations.StartFaceStartsTheFacePhase : Prop :=
  ∀ s : State, Granted .startFace s →
    (s.frame.state ≠ .backEnd → exec .startFace s = .next (s.replied .E 0x13 []))
    ∧ (s.frame.state = .backEnd → (s.bank .face).state ≠ .ready →
      exec .startFace s = .next (s.replied .E 0x1C []))
    ∧ (s.frame.state = .backEnd → (s.bank .face).state = .ready → LightOk s → PhasesOk s → DosesOk s →
      ∀ need limit ts, (need = fun i => phaseNeed (s.plate i).faceTarget (s.plate i).faceDelivered) →
        (limit = fun i => 1000 * (s.plateType i).faceMaxS) → ts = 10 * s.item .sampleDiv →
      (∀ a b runs, (s.frame.laneA.slot = none ∨ s.frame.laneA.slot ≠ s.frame.laneB.slot) →
        a = s.frame.laneA.unfailed → b = s.frame.laneB.unfailed →
        runs = (startsRunning a need || startsRunning b need) →
        exec .startFace s = .next
          ((State.postAll
            { s with
              chans := (s.chans.set 2 (startedFor a need limit ts)).set 3 (startedFor b need limit ts)
              frame := { s.frame with state := if runs then .faceRun else .faceEnd } }
            .E (stopsAtStart a need .faceA ++ stopsAtStart b need .faceB
              ++ if runs then [] else [⟨.phaseEnd, s.frame.laneA.slot, 1⟩])).replied .E 0x00 []))
      ∧ ∀ i, s.frame.laneA.slot = some i → s.frame.laneB.slot = some i →
        (s.frame.laneA.failure = true ∨ s.frame.laneB.failure = true →
          exec .startFace s = .next
            ((State.post { s with frame := { s.frame with state := .faceEnd } } .E
              ⟨.phaseEnd, some i, 1⟩).replied .E 0x00 []))
        ∧ (s.frame.laneA.failure = false → s.frame.laneB.failure = false →
          exec .startFace s = .next
            ((State.postAll
              { s with
                chans := (s.chans.set 2 (startOutcome i (some .faceB) (need i) (limit i) ts)).set 3
                  (startOutcome i (some .faceA) (need i) (limit i) ts)
                frame := { s.frame with state := if 0 < need i then .faceRun else .faceEnd } }
              .E (if 0 < need i then [] else [⟨.channelStop, some i, 2⟩, ⟨.phaseEnd, some i, 1⟩])).replied .E 0x00
              [])))

/-- UNLOAD is refused unless the frame is in FACE_END. It settles the plate of lane A and then the plate of lane B, a wide
plate once, returns the four channels to IDLE, empties the bed and answers the state each plate has gone to (R87, R88). -/
def Obligations.UnloadSettlesTheBed : Prop :=
  ∀ s : State, Granted .unload s →
    (s.frame.state ≠ .faceEnd → exec .unload s = .next (s.replied .E 0x13 []))
    ∧ (s.frame.state = .faceEnd → ∀ i, s.frame.laneA.slot = some i →
      (s.frame.laneB.slot = some i ∨ s.frame.laneB.slot = none →
        exec .unload s = .next
          ((s.unloaded i s.frame.laneA).bedCleared.replied .E 0x00 [s.unloadCode i s.frame.laneA, 0xFF]))
      ∧ ∀ j, s.frame.laneB.slot = some j → i ≠ j →
        exec .unload s = .next
          (((s.unloaded i s.frame.laneA).unloaded j s.frame.laneB).bedCleared.replied .E 0x00
            [s.unloadCode i s.frame.laneA, s.unloadCode j s.frame.laneB]))

/-- FRAME_ABORT of a LOADED frame undoes the load: a plate with a pending hold is HELD, and any other returns to the
exposure queue at the head of its class, lane A's ahead of lane B's; in EMPTY and FACE_END it is refused (R11, R63, R89,
R91). -/
def Obligations.FrameAbortUndoesALoad : Prop :=
  ∀ s : State, Granted .frameAbort s →
    (s.frame.state = .empty ∨ s.frame.state = .faceEnd → exec .frameAbort s = .next (s.replied .E 0x13 []))
    ∧ (s.frame.state = .loaded → ∀ (i : Slot) (r n : List Slot), s.frame.laneA.slot = some i → s.classes r n →
      i ∉ s.exposureQ →
      (s.frame.laneB.slot = some i ∨ s.frame.laneB.slot = none →
        ((s.plate i).holdPending = true →
          exec .frameAbort s = .next ({ s.heldAtUndo i with frame := {} }.replied .E 0x00 []))
        ∧ ((s.plate i).holdPending = false →
          exec .frameAbort s = .next
            ({ s.putBack i (if (s.plate i).rush then i :: (r ++ n) else r ++ i :: n) with frame := {} }.replied .E 0x00
              [])))
      ∧ ∀ j, s.frame.laneB.slot = some j → i ≠ j → j ∉ s.exposureQ →
        ((s.plate i).holdPending = true → (s.plate j).holdPending = true →
          exec .frameAbort s = .next ({ (s.heldAtUndo i).heldAtUndo j with frame := {} }.replied .E 0x00 []))
        ∧ ((s.plate i).holdPending = true → (s.plate j).holdPending = false →
          exec .frameAbort s = .next
            ({ (s.heldAtUndo i).putBack j (if (s.plate j).rush then j :: (r ++ n) else r ++ j :: n) with
              frame := {} }.replied .E 0x00 []))
        ∧ ((s.plate i).holdPending = false → (s.plate j).holdPending = true →
          exec .frameAbort s = .next
            ({ (s.putBack i (if (s.plate i).rush then i :: (r ++ n) else r ++ i :: n)).heldAtUndo j with
              frame := {} }.replied .E 0x00 []))
        ∧ ((s.plate i).holdPending = false → (s.plate j).holdPending = false →
          exec .frameAbort s = .next
            ({ (s.putBack i (if (s.plate i).rush then i :: (r ++ n) else r ++ i :: n)).putBack j
                (match (s.plate i).rush, (s.plate j).rush with
                  | true, true => i :: j :: (r ++ n)
                  | true, false => i :: r ++ j :: n
                  | false, true => j :: r ++ i :: n
                  | false, false => r ++ i :: j :: n) with
              frame := {} }.replied .E 0x00 [])))

/-- FRAME_ABORT once exposure has begun stops the channels under way and books what they have delivered, returns the four
channels to IDLE, and makes each plate HELD with reason ABORTED, to be released to STAGED (R11, R12, R90, R118, R119). -/
def Obligations.FrameAbortBreaksOffAnExposure : Prop :=
  ∀ s t : State, Granted .frameAbort s → s.frame.state ∈ [FrameState.backRun, .backEnd, .faceRun] → LightOk s →
    PhasesOk s → DosesOk s → t = { s with link := s.link.without fun c => c.lane.isSome } →
    ∀ i, s.frame.laneA.slot = some i →
      (s.frame.laneB.slot = none →
        exec .frameAbort s = .next
          ((t.heldAborted i (s.owed .backA) (s.owed .faceA)).bedCleared.replied .E 0x00 []))
      ∧ (s.frame.laneB.slot = some i →
        exec .frameAbort s = .next
          ((t.heldAborted i (min (s.owed .backA) (s.owed .backB)) (min (s.owed .faceA) (s.owed .faceB))).bedCleared.replied
            .E 0x00 []))
      ∧ ∀ j, s.frame.laneB.slot = some j → i ≠ j →
        exec .frameAbort s = .next
          (((t.heldAborted i (s.owed .backA) (s.owed .faceA)).heldAborted j (s.owed .backB)
            (s.owed .faceB)).bedCleared.replied .E 0x00 [])

/-! ### Washout and the solvent -/

/-- A gate evaluation keeps the gate UNKNOWN and the warn flag clear while M is unknown; else it sets or clears the warn
flag, moves the gate with hysteresis, and posts WARN and each change of the gate to P and to W. REPLENISH drains its
share of M, rounded, and needs M to be known; SOLVENT_CHANGE makes M 0; SET_LOADING makes M the loading times TANK_L;
each evaluates the gate (R52, R59, R127, R128, R135 to R137). That the four bytes of REPLENISH's reply carry the drained
mass less any excess over them is the model's choice (log entry 20). -/
def Obligations.TheSolventAccountMovesTheGate : Prop :=
  (∀ s : State, s.solvent.mass = none → s.evaluateGate = { s with solvent := ⟨none, .unknown, false⟩ })
  ∧ (∀ (s : State) (m l : Nat) (warn : Bool) (gate : Gate) (es : List Event), s.solvent.mass = some m →
    l = m / s.item .tankL → warn = decide (s.item .lWarn ≤ l) →
    gate = (if s.solvent.gate = .spent then (if l ≤ s.item .lResume then .opened else .spent)
      else if s.item .lHold ≤ l then .spent else .opened) →
    es = (if warn && !s.solvent.warn then [⟨.solvent, none, 2⟩] else [])
      ++ (if gate = s.solvent.gate then [] else [⟨.solvent, none, if gate = .opened then 0 else 1⟩]) →
    s.evaluateGate = (State.postAll { s with solvent := ⟨some m, gate, warn⟩ } .P es).postAll .W es)
  ∧ (∀ (s : State) (litres : Word), Granted (.replenish litres) s →
    (s.solvent.mass = none → exec (.replenish litres) s = .next (s.replied .W 0x21 []))
    ∧ ∀ m r drained, s.solvent.mass = some m → r = min litres.toNat (s.item .tankL) →
      drained = (2 * (m * r) + s.item .tankL) / (2 * s.item .tankL) →
      exec (.replenish litres) s = .next
        ((State.evaluateGate { s with solvent := { s.solvent with mass := some (m - drained) } }).replied .W
          (if litres.toNat ≤ s.item .tankL then 0x00 else 0x01)
          [BitVec.ofNat 8 (drained / 2 ^ 24), BitVec.ofNat 8 (drained / 2 ^ 16), BitVec.ofNat 8 (drained / 2 ^ 8),
            BitVec.ofNat 8 drained]))
  ∧ (∀ s : State, Granted .solventChange s →
    exec .solventChange s = .next
      ((State.evaluateGate { s with solvent := { s.solvent with mass := some 0 } }).replied .W 0x00 []))
  ∧ ∀ (s : State) (loading : Word), Granted (.setLoading loading) s →
    exec (.setLoading loading) s = .next
      ((State.evaluateGate
        { s with solvent := { s.solvent with mass := some (loading.toNat * s.item .tankL) } }).replied .P 0x00 [])

/-- WASH_CLAIM makes its checks in order; an accepted claim takes the plate named, or the head of the washout queue, sets
its speed from the loading that it will meet, marks a clamped speed, and puts the plate at the tail of the transit list
with its overdue time (R53 to R56, R124, R125, R129, R130). -/
def Obligations.WashClaimAdmitsAPlate : Prop :=
  ∀ (s : State) (b : Byte), Granted (.washClaim b) s →
    (63 < b.toNat → b ≠ 0xFF → exec (.washClaim b) s = .next (s.replied .W 0x12 []))
    ∧ (b.toNat ≤ 63 ∨ b = 0xFF →
      (s.solvent.gate = .unknown → exec (.washClaim b) s = .next (s.replied .W 0x21 []))
      ∧ (s.solvent.gate = .spent → exec (.washClaim b) s = .next (s.replied .W 0x20 []))
      ∧ (s.solvent.gate = .opened →
        (3 ≤ s.transit.length → exec (.washClaim b) s = .next (s.replied .W 0x1F []))
        ∧ (s.transit.length < 3 →
          (b = 0xFF → s.washQ = [] → exec (.washClaim b) s = .next (s.replied .W 0x15 []))
          ∧ (∀ i : Slot, b.toNat = i.val → (s.plate i).state ≠ .exposed →
            exec (.washClaim b) s = .next (s.replied .W 0x13 []))
          ∧ ∀ (i : Slot) (before after : List Slot) (m projected factor rate raw v : Nat),
            (b = 0xFF ∧ before = [] ∨ b.toNat = i.val ∧ (s.plate i).state = .exposed) →
            s.washQ = before ++ i :: after → i ∉ before → i ∉ after → s.solvent.mass = some m →
            projected = (m + (s.transit.map fun e =>
              if (s.plate e.slot).massCounted then 0 else (s.plate e.slot).mass).sum) / s.item .tankL →
            factor = max 250 (min 1000 (1000 - (s.plateType i).sens * projected / 10)) →
            rate = max 1 ((s.plateType i).rateFresh * factor / 1000) →
            raw = s.item .brushLen * rate / (10 * (s.plate i).relief) →
            v = (if raw < s.item .vMin then s.item .vMin else if s.item .vMax < raw then s.item .vMax else raw) →
            exec (.washClaim b) s = .next
              (State.replied { s.modPlate i fun p =>
                  { p with
                    state := .washing
                    speed := some v
                    marks := { p.marks with
                      washShort := p.marks.washShort || decide (raw < s.item .vMin)
                      washLong := p.marks.washLong || decide (s.item .vMax < raw) } } with
                washQ := before ++ after
                transit := s.transit
                  ++ [⟨i, 2 * ((60 * s.item .brushLen + v - 1) / v) + s.item .washTail, false⟩] } .W
                (if v = raw then 0x00 else 0x01) (nameOf i :: word2 v)))))

/-- WASH_DONE takes the plate at the head of the transit list out of it and books its mass; the plate is WASHED at the
tail of the dryer wait list, or HELD by a pending hold. WASH_FAULT takes a plate from any place of the list, books its
mass, and makes it HELD. Each evaluates the gate (R1, R10 to R12, R58, R127, R131 to R133, R142). -/
def Obligations.WashEndsBookTheMass : Prop :=
  (∀ (s : State) (b : Byte), 63 < b.toNat →
    (Granted (.washDone b) s → exec (.washDone b) s = .next (s.replied .W 0x12 []))
    ∧ (Granted (.washFault b) s → exec (.washFault b) s = .next (s.replied .W 0x12 [])))
  ∧ (∀ (s : State) (b : Byte) (i : Slot), b.toNat = i.val → (∀ e ∈ s.transit, e.slot ≠ i) →
    (Granted (.washDone b) s → exec (.washDone b) s = .next (s.replied .W 0x13 []))
    ∧ (Granted (.washFault b) s → exec (.washFault b) s = .next (s.replied .W 0x13 [])))
  ∧ (∀ (s : State) (b : Byte) (i : Slot) (e d : TransitEntry) (rest : List TransitEntry), b.toNat = i.val →
    Granted (.washDone b) s → s.transit = d :: rest → e ∈ rest → e.slot = i → d.slot ≠ i →
    exec (.washDone b) s = .next (s.replied .W 0x22 []))
  ∧ ∀ (s t : State) (b : Byte) (i : Slot) (e : TransitEntry) (before after : List TransitEntry), b.toNat = i.val →
    s.transit = before ++ e :: after → e.slot = i → (∀ d ∈ before ++ after, d.slot ≠ i) →
    t = { s.modPlate i (fun p => { p with massCounted := true }) with
      transit := before ++ after
      solvent := { s.solvent with
        mass := s.solvent.mass.map fun m => if (s.plate i).massCounted then m else m + (s.plate i).mass } } →
    (Granted (.washDone b) s → before = [] →
      ((s.plate i).holdPending = true →
        exec (.washDone b) s = .next
          ((((t.modPlate i fun p => p.heldFor .operator .washed).tellHeld i 0 .W).evaluateGate).replied .W 0x00 [10]))
      ∧ ((s.plate i).holdPending = false →
        exec (.washDone b) s = .next
          (((State.tellReady
            { t.modPlate i fun p => { p with state := .washed } with dryerQ := s.dryerQ ++ [i] }
            s.dryerQ.isEmpty .D 1).evaluateGate).replied .W 0x00 [5])))
    ∧ (Granted (.washFault b) s →
      exec (.washFault b) s = .next
        ((((t.modPlate i fun p => p.heldFor .washFault .exposed).tellHeld i 4 .W).evaluateGate).replied .W 0x00 []))

/-! ### Drawers and the finisher -/

/-- DRAWER_LOAD puts the plate named, or the head of the dryer wait list, in an EMPTY drawer with the time it owes;
DRAWER_OPEN stops a DRYING drawer's clock and DRAWER_CLOSE lets it go on; a DRY drawer may be opened and closed at will
(R143 to R148). -/
def Obligations.DrawersAreLoadedOpenedAndClosed : Prop :=
  (∀ (s : State) (b : Byte), 3 < b.toNat →
    (∀ code, Granted (.drawerLoad b code) s → exec (.drawerLoad b code) s = .next (s.replied .D 0x26 []))
    ∧ (Granted (.drawerOpen b) s → exec (.drawerOpen b) s = .next (s.replied .D 0x26 []))
    ∧ (Granted (.drawerClose b) s → exec (.drawerClose b) s = .next (s.replied .D 0x26 [])))
  ∧ (∀ (s : State) (b code : Byte) (d : DrawerIx), b.toNat = d.val → Granted (.drawerLoad b code) s →
    (63 < code.toNat → code ≠ 0xFF → exec (.drawerLoad b code) s = .next (s.replied .D 0x12 []))
    ∧ (code.toNat ≤ 63 ∨ code = 0xFF →
      ((s.drawer d).state ≠ .empty → exec (.drawerLoad b code) s = .next (s.replied .D 0x1D []))
      ∧ ((s.drawer d).state = .empty →
        (code = 0xFF → s.dryerQ = [] → exec (.drawerLoad b code) s = .next (s.replied .D 0x15 []))
        ∧ (∀ i : Slot, code.toNat = i.val → (s.plate i).state ≠ .washed →
          exec (.drawerLoad b code) s = .next (s.replied .D 0x13 []))
        ∧ ∀ (i : Slot) (before after : List Slot),
          (code = 0xFF ∧ before = [] ∨ code.toNat = i.val ∧ (s.plate i).state = .washed) →
          s.dryerQ = before ++ i :: after → i ∉ before → i ∉ after →
          exec (.drawerLoad b code) s = .next
            ((State.modDrawer
              { s.modPlate i fun p => { p with state := .drying, drawer := some d } with dryerQ := before ++ after } d
              fun _ => ⟨.drying, some i, (s.plate i).dryRemaining⟩).replied .D 0x00
              (nameOf i :: word2 (s.plate i).dryRemaining)))))
  ∧ (∀ (s : State) (b : Byte) (d : DrawerIx), b.toNat = d.val → Granted (.drawerOpen b) s →
    ((s.drawer d).state = .drying →
      exec (.drawerOpen b) s = .next ((s.modDrawer d fun k => { k with state := .opened }).replied .D 0x00 []))
    ∧ ((s.drawer d).state = .opened ∨ (s.drawer d).state = .dry →
      exec (.drawerOpen b) s = .next (s.replied .D 0x00 []))
    ∧ ((s.drawer d).state = .empty → exec (.drawerOpen b) s = .next (s.replied .D 0x1E [])))
  ∧ ∀ (s : State) (b : Byte) (d : DrawerIx), b.toNat = d.val → Granted (.drawerClose b) s →
    ((s.drawer d).state = .opened →
      exec (.drawerClose b) s = .next ((s.modDrawer d fun k => { k with state := .drying }).replied .D 0x00 []))
    ∧ ((s.drawer d).state ≠ .opened → exec (.drawerClose b) s = .next (s.replied .D 0x00 []))

/-- DRAWER_UNLOAD empties the drawer: a plate of a DRY drawer is otherwise left as it is, and a wet plate is HELD with
the time it still owes (R10 to R12, R143, R150). -/
def Obligations.DrawerUnloadEmptiesTheDrawer : Prop :=
  (∀ (s : State) (b : Byte), Granted (.drawerUnload b) s → 3 < b.toNat →
    exec (.drawerUnload b) s = .next (s.replied .D 0x26 []))
  ∧ ∀ (s : State) (b : Byte) (d : DrawerIx), Granted (.drawerUnload b) s → b.toNat = d.val →
    ((s.drawer d).state = .empty → exec (.drawerUnload b) s = .next (s.replied .D 0x1E []))
    ∧ ∀ i : Slot, (s.drawer d).slot = some i →
      ((s.drawer d).state = .dry →
        exec (.drawerUnload b) s = .next
          (((s.modPlate i fun p => { p with drawer := none }).modDrawer d fun _ => ⟨.empty, none, 0⟩).replied .D 0x00
            [nameOf i, BitVec.ofNat 8 ([PlateState.free, .staged, .onFrame, .exposed, .washing, .washed, .drying,
              .dried, .finishing, .done, .held, .scrapped].idxOf (s.plate i).state)]))
      ∧ ((s.drawer d).state = .drying ∨ (s.drawer d).state = .opened →
        exec (.drawerUnload b) s = .next
          ((((s.modPlate i fun p =>
              { p.heldFor .wetRemoved .washed with
                drawer := none
                dryRemaining := (s.drawer d).remaining }).modDrawer d fun _ => ⟨.empty, none, 0⟩).tellHeld i 5
              .D).replied .D 0x00 [nameOf i, 10]))

/-- FINISH_LOAD puts the plate named, or the head of the finisher wait list, in an EMPTY finisher position, and empties
the DRY drawer that references it (R151, R155, R156). -/
def Obligations.FinishLoadFillsThePosition : Prop :=
  ∀ (s : State) (b : Byte), Granted (.finishLoad b) s →
    (63 < b.toNat → b ≠ 0xFF → exec (.finishLoad b) s = .next (s.replied .D 0x12 []))
    ∧ (b.toNat ≤ 63 ∨ b = 0xFF →
      (s.finisher.state ≠ .empty → exec (.finishLoad b) s = .next (s.replied .D 0x25 []))
      ∧ (s.finisher.state = .empty →
        (b = 0xFF → s.finisherQ = [] → exec (.finishLoad b) s = .next (s.replied .D 0x15 []))
        ∧ (∀ i : Slot, b.toNat = i.val → (s.plate i).state ≠ .dried →
          exec (.finishLoad b) s = .next (s.replied .D 0x13 []))
        ∧ ∀ (i : Slot) (before after : List Slot),
          (b = 0xFF ∧ before = [] ∨ b.toNat = i.val ∧ (s.plate i).state = .dried) →
          s.finisherQ = before ++ i :: after → i ∉ before → i ∉ after →
          ((∀ d, (s.drawer d).slot ≠ some i) →
            exec (.finishLoad b) s = .next
              ({ s.modPlate i fun p => { p with state := .finishing } with
                finisherQ := before ++ after
                finisher := ⟨.loaded, some i, false, false⟩ }.replied .D 0x00 [nameOf i, 0xFF]))
          ∧ ∀ d, (s.drawer d).state = .dry → (s.drawer d).slot = some i →
            (∀ e, e ≠ d → (s.drawer e).slot ≠ some i) →
            exec (.finishLoad b) s = .next
              ((State.modDrawer
                { s.modPlate i fun p => { p with state := .finishing, drawer := none } with
                  finisherQ := before ++ after
                  finisher := ⟨.loaded, some i, false, false⟩ } d fun _ => ⟨.empty, none, 0⟩).replied .D 0x00
                [nameOf i, BitVec.ofNat 8 d.val])))

/-- FINISH_START is refused unless the position is LOADED and both finisher banks READY. It starts DETACK and POST for
the plate with its needs and its type's limits, DETACK first (log entry 6); where neither is left RUNNING the run ends at
once (R104, R157, R158). -/
def Obligations.FinishStartStartsTheRun : Prop :=
  ∀ s : State, Granted .finishStart s →
    (s.finisher.state ≠ .loaded → exec .finishStart s = .next (s.replied .D 0x13 []))
    ∧ (s.finisher.state = .loaded → (s.bank .detack).state ≠ .ready ∨ (s.bank .post).state ≠ .ready →
      exec .finishStart s = .next (s.replied .D 0x1C []))
    ∧ (s.finisher.state = .loaded → (s.bank .detack).state = .ready → (s.bank .post).state = .ready → LightOk s →
      PhasesOk s → DosesOk s → ∀ i detackNeed postNeed ts runs, s.finisher.slot = some i →
      (detackNeed = fun j => phaseNeed (s.plateType j).detackDose (s.plate j).detackDelivered) →
      (postNeed = fun j => phaseNeed (s.plateType j).postDose (s.plate j).postDelivered) → ts = 10 * s.item .sampleDiv →
      runs = decide (0 < detackNeed i ∨ 0 < postNeed i) →
      exec .finishStart s = .next
        ((State.postAll
          { s with
            chans := (s.chans.set 4 (startOutcome i none (detackNeed i) (1000 * (s.plateType i).detackMaxS) ts)).set 5
              (startOutcome i none (postNeed i) (1000 * (s.plateType i).postMaxS) ts)
            finisher := { s.finisher with state := if runs then .running else .ended } }
          .D (stopsAtStart (some i) detackNeed .detack ++ stopsAtStart (some i) postNeed .post
            ++ if runs then [] else [⟨.phaseEnd, some i, 2⟩])).replied .D 0x00 []))

/-- FINISH_UNLOAD settles the plate of an ENDED position; FINISH_ABORT undoes a LOADED position and breaks off a RUNNING
one, booking what its channels have delivered; each is refused in every other state, and leaves the position EMPTY (R10
to R12, R118, R119, R154, R159 to R161). -/
def Obligations.FinishEndsEmptyThePosition : Prop :=
  (∀ s : State, Granted .finishUnload s →
    (s.finisher.state ≠ .ended → exec .finishUnload s = .next (s.replied .D 0x13 []))
    ∧ ∀ (i : Slot) (chans : Vector Channel 6), s.finisher.state = .ended → s.finisher.slot = some i →
      chans = (s.chans.set 4 Channel.idle).set 5 Channel.idle →
      (s.finisher.failure = true →
        exec .finishUnload s = .next
          ((State.tellHeld { s.modPlate i fun p => p.heldFor .sensor .dried with finisher := {}, chans := chans } i 3
            .D).replied .D 0x00 [10]))
      ∧ (s.finisher.failure = false → s.finisher.short = true →
        exec .finishUnload s = .next
          ((State.tellHeld { s.modPlate i fun p => p.heldFor .doseShort .done with finisher := {}, chans := chans } i 2
            .D).replied .D 0x00 [10]))
      ∧ (s.finisher.failure = false → s.finisher.short = false → (s.plate i).holdPending = true →
        exec .finishUnload s = .next
          ((State.tellHeld { s.modPlate i fun p => p.heldFor .operator .done with finisher := {}, chans := chans } i 0
            .D).replied .D 0x00 [10]))
      ∧ (s.finisher.failure = false → s.finisher.short = false → (s.plate i).holdPending = false →
        exec .finishUnload s = .next
          ((State.post { s.modPlate i fun p => { p with state := .done } with finisher := {}, chans := chans } .P
            ⟨.plateDone, some i, 0⟩).replied .D 0x00 [9])))
  ∧ ∀ s : State, Granted .finishAbort s →
    (s.finisher.state = .empty ∨ s.finisher.state = .ended → exec .finishAbort s = .next (s.replied .D 0x13 []))
    ∧ ∀ i : Slot, s.finisher.slot = some i →
      (s.finisher.state = .loaded → (s.plate i).holdPending = true →
        exec .finishAbort s = .next
          ((State.tellHeld { s.modPlate i fun p => p.heldFor .operator .dried with finisher := {} } i 0 .D).replied .D 0x00
            []))
      ∧ (s.finisher.state = .loaded → (s.plate i).holdPending = false →
        exec .finishAbort s = .next
          ((State.tellReady
            { s.modPlate i fun p => { p with state := .dried } with finisherQ := i :: s.finisherQ, finisher := {} }
            s.finisherQ.isEmpty .D 2).replied .D 0x00 []))
      ∧ (s.finisher.state = .running → LightOk s → PhasesOk s → DosesOk s →
        exec .finishAbort s = .next
          ((State.tellHeld
            { s.modPlate i fun p =>
                { p.heldFor .aborted .dried with
                  detackDelivered := min (2 ^ 48 - 1) (p.detackDelivered + s.owed .detack)
                  postDelivered := min (2 ^ 48 - 1) (p.postDelivered + s.owed .post) } with
              finisher := {}
              chans := (s.chans.set 4 Channel.idle).set 5 Channel.idle
              link := s.link.without fun c => c.lane.isNone }
            i 1 .D).replied .D 0x00 []))

/-! ### Timers, channels and the sensor link -/

/-- A decrement that brings a timer to 0 is its expiry: the bank is READY and its PAUSED channels resume; the drawer is
DRY and its plate goes on; the plate is OVERDUE. Any other decrement takes a second from a timer that counts. A warm timer
whose bank is not WARMING, a drawer's timer whose drawer is not DRYING and an overdue timer that has expired stand still,
and do not expire (R10, R95, R96, R117, R125, R144, R149, R154). The row that names the expiry is the one that acts on a
timer at 1 or less, and TIMER_DECREMENT the one that acts on a timer above 1; the other of the two leaves the state (log
entry 14), and so does either row of a timer that does not count, or of a plate that is not in transit (log entry 2). -/
def Obligations.TimersCountAndExpire : Prop :=
  ∀ s : State, s.rstLow = false →
    (∀ b : Bank, (s.bank b).state = .warming →
      ((s.bank b).warm ≤ 1 →
        exec (.warmTimerExpiry b) s = .next
          (((s.modBank b fun k => ⟨.ready, 0, k.ref⟩).post (if b = .back ∨ b = .face then .E else .D)
            ⟨.bankReady, none, b.index⟩).mapChans fun c k =>
              if c.bank = b ∧ k.state = .paused then
                { k with state := .running, interval := some (10 * s.item .sampleDiv) }
              else k))
      ∧ (1 < (s.bank b).warm →
        exec (.timerDecrement (.warm b)) s = .next (s.modBank b fun k => { k with warm := k.warm - 1 }))
      ∧ ((s.bank b).warm ≤ 1 → exec (.timerDecrement (.warm b)) s = .next s)
      ∧ (1 < (s.bank b).warm → exec (.warmTimerExpiry b) s = .next s))
    ∧ (∀ d i, (s.drawer d).state = .drying → (s.drawer d).slot = some i →
      ((s.drawer d).remaining ≤ 1 →
        ∀ t : State, t = (((s.modDrawer d fun k => ⟨.dry, k.slot, 0⟩).modPlate i fun p =>
          { p with dryRemaining := 0 }).post .D ⟨.drawerDry, some i, d.val⟩) →
        ((s.plate i).holdPending = true →
          exec (.dryTimerExpiry d) s = .next ((t.modPlate i fun p => p.heldFor .operator .dried).tellHeld i 0 .D))
        ∧ ((s.plate i).holdPending = false →
          exec (.dryTimerExpiry d) s = .next
            (State.tellReady { t.modPlate i fun p => { p with state := .dried } with finisherQ := s.finisherQ ++ [i] }
              s.finisherQ.isEmpty .D 2)))
      ∧ (1 < (s.drawer d).remaining →
        exec (.timerDecrement (.drawer d)) s = .next
          (s.modDrawer d fun k => { k with remaining := k.remaining - 1 }))
      ∧ ((s.drawer d).remaining ≤ 1 → exec (.timerDecrement (.drawer d)) s = .next s)
      ∧ (1 < (s.drawer d).remaining → exec (.dryTimerExpiry d) s = .next s))
    ∧ (∀ b, (s.bank b).state ≠ .warming →
      exec (.warmTimerExpiry b) s = .next s ∧ exec (.timerDecrement (.warm b)) s = .next s)
    ∧ (∀ d, (s.drawer d).state ≠ .drying →
      exec (.dryTimerExpiry d) s = .next s ∧ exec (.timerDecrement (.drawer d)) s = .next s)
    ∧ (∀ (i : Slot) (n : Nat) (before after : List TransitEntry), s.transit = before ++ ⟨i, n, true⟩ :: after →
      (∀ e ∈ before ++ after, e.slot ≠ i) →
      exec (.overdueTimerExpiry i) s = .next s ∧ exec (.timerDecrement (.overdue i)) s = .next s)
    ∧ (∀ i : Slot, (∀ e ∈ s.transit, e.slot ≠ i) →
      exec (.overdueTimerExpiry i) s = .next s ∧ exec (.timerDecrement (.overdue i)) s = .next s)
    ∧ ∀ (i : Slot) (n : Nat) (before after : List TransitEntry), s.transit = before ++ ⟨i, n, false⟩ :: after →
      (∀ e ∈ before ++ after, e.slot ≠ i) →
      (n ≤ 1 → exec (.overdueTimerExpiry i) s = .next
        ((State.modPlate { s with transit := before ++ ⟨i, 0, true⟩ :: after } i fun p =>
          { p with marks := { p.marks with overdue := true } }).post .P ⟨.overdue, some i, 0⟩))
      ∧ (1 < n → exec (.timerDecrement (.overdue i)) s = .next
        { s with transit := before ++ ⟨i, n - 1, false⟩ :: after })
      ∧ (n ≤ 1 → exec (.timerDecrement (.overdue i)) s = .next s)
      ∧ (1 < n → exec (.overdueTimerExpiry i) s = .next s)

/-- A sample that falls due at a RUNNING channel whose last read has ended joins the due list with its interval's length,
and the next interval begins; a wide pair's samples fall due together. An idle link takes the request of the
lowest-numbered channel and sends the start condition, the sensor's address and the direction bit; at the end of a read
the two bytes and the stop condition, or the missing acknowledge and the stop condition, have passed (R101, R105 to
R109). That the row takes both channels of a pair in one step is the model's (log entry 16), and so is that the bit times
stay to be seen (log entry 15). SAMPLE_DUE of a channel that is not RUNNING leaves the state as it is, and so does
SENSOR_READ_START at a busy link or with nothing due (log entry 2). -/
def Obligations.SamplesFallDueAndAreRead : Prop :=
  (∀ (s : State) (c : Chan), s.rstLow = false → (s.chan c).state = .running → (s.chan c).readOutstanding = false →
    s.linkCarries c = false →
    ((s.chan c).partner = none →
      exec (.sampleDue c) s = .next
        (State.modChan { s with link := { s.link with due := s.link.due.set c.index (s.chan c).interval } } c fun k =>
          { k with readOutstanding := true, interval := some (10 * s.item .sampleDiv) }))
    ∧ ∀ d, (s.chan c).partner = some d → LightOk s → (s.chan d).readOutstanding = false → s.linkCarries d = false →
      exec (.sampleDue c) s = .next
        ((State.modChan
          { s with link := { s.link with
              due := (s.link.due.set c.index (s.chan c).interval).set d.index (s.chan d).interval } } c fun k =>
          { k with readOutstanding := true, interval := some (10 * s.item .sampleDiv) }).modChan d fun k =>
            { k with readOutstanding := true, interval := some (10 * s.item .sampleDiv) }))
  ∧ (∀ (s : State) (c : Chan), s.rstLow = false → (s.chan c).state ≠ .running → exec (.sampleDue c) s = .next s)
  ∧ (∀ s : State, s.rstLow = false →
    (∀ c ts, s.link.busy = none → s.link.due[c.index] = some ts →
      (∀ d : Chan, d.index < c.index → s.link.due[d.index] = none) →
      exec .sensorReadStart s = .next { s with
        link := {
          busy := some ⟨c, ts, true⟩
          due := s.link.due.set c.index none
          wire := .start :: (List.range 7).map (fun n => .linkBit ((0x30 + c.index.val).testBit (6 - n)))
            ++ [.linkBit true] } })
    ∧ (s.link.busy.isSome = true ∨ (∀ c : Chan, s.link.due[c.index] = none) → exec .sensorReadStart s = .next s))
  ∧ ∀ (k : Link) (c : Chan) (head : List WireSymbol),
    head = .start :: (List.range 7).map (fun n => .linkBit ((0x30 + c.index.val).testBit (6 - n))) ++ [.linkBit true] →
    (k.ended c none).wire = head ++ [.sensorAck false, .stop]
    ∧ ∀ v : Word, (k.ended c (some v)).wire = head ++ .sensorAck true
        :: (List.range 8).map (fun n => .sensorBit (v.getLsbD (15 - n))) ++ [.linkAck true]
        ++ (List.range 8).map (fun n => .sensorBit (v.getLsbD (7 - n))) ++ [.linkAck false, .stop]

/-- A reading is credited to its channel over its interval, the last good reading standing in for the first two bad ones
in a row; then the run, a channel or a wide pair, is tested for REACHED, then for TIME_LIMIT, on the smaller figures of a
pair. The third bad sample in a row fails the run. An ended run delivers its count to its plate and posts CHANNEL_STOP;
REACHED teaches the bank its reference irradiance. A reading of a channel that has left RUNNING is discarded (R4, R48 to
R51, R82, R99, R106, R110 to R115, R158). SENSOR_READ_COMPLETE at an idle link leaves the state as it is (log entry 2). -/
def Obligations.AReadingIsCreditedAndTested : Prop :=
  (∀ (s : State) (answer : Option Word), s.rstLow = false → s.link.busy = none →
    exec (.sensorReadComplete answer) s = .next s)
  ∧ ∀ (s : State) (r : LinkRead) (answer : Option Word) (k : Channel), s.rstLow = false → s.link.busy = some r →
    k = s.chan r.chan →
    (r.live = false ∨ k.state ≠ .running →
      exec (.sensorReadComplete answer) s = .next
        (State.modChan { s with link := s.link.ended r.chan answer } r.chan fun k => { k with readOutstanding := false }))
    ∧ (r.live = true → k.state = .running → LightOk s →
      ∀ (i : Slot) (need limit : Nat), k.slot = some i → k.need = some need → k.limit = some limit →
      (∀ (reading bad good acc el m e f : Nat) (first : Chan) (k' : Channel) (marks : Marks),
        ((∃ v, answer = some v ∧ reading = v.toNat ∧ good = v.toNat ∧ bad = 0)
          ∨ (answer = none ∧ k.badCount < 2 ∧ reading = k.lastGood ∧ good = k.lastGood ∧ bad = k.badCount + 1)) →
        acc = min (2 ^ 48 - 1) (k.accumulator + reading * r.ts) → el = k.elapsed + r.ts →
        ((k.partner = none ∧ m = acc ∧ e = el ∧ f = el ∧ first = r.chan)
          ∨ ∃ d, k.partner = some d ∧ m = min acc (s.chan d).accumulator ∧ e = min el (s.chan d).elapsed
            ∧ f = (if acc < (s.chan d).accumulator ∨ acc = (s.chan d).accumulator ∧ r.chan.index < d.index then el
              else (s.chan d).elapsed)
            ∧ first = if r.chan.index < d.index then r.chan else d) →
        k' = { k with accumulator := acc, elapsed := el, lastGood := good, badCount := bad, readOutstanding := false } →
        marks = { (s.plate i).marks with
          sensorSat := (s.plate i).marks.sensorSat || decide (answer = some 65535) } →
        (m < need → e < limit →
          exec (.sensorReadComplete answer) s = .next
            (State.modChan
              { s.modPlate i fun p => { p with marks := marks } with link := s.link.ended r.chan answer } r.chan
              fun _ => k'))
        ∧ (need ≤ m →
          exec (.sensorReadComplete answer) s = .next
            ((((((s.modPlate i fun p => { p with marks := marks }.addDose r.chan.phase m).modBank r.chan.bank fun b =>
                { b with ref := if 0 < f then some (max 1 (roundDiv m f)) else b.ref }).runOver r.chan
                  { k' with state := .stopped, result := some .reached, interval := none } answer).post r.chan.port
                ⟨.channelStop, some i, first.index⟩)).checkPhase r.chan))
        ∧ (m < need → limit ≤ e →
          exec (.sensorReadComplete answer) s = .next
            (((((s.modPlate i fun p =>
                { p with marks := { marks with doseShort := true } }.addDose r.chan.phase m).runOver r.chan
                  { k' with state := .stopped, result := some .timeLimit, interval := none } answer).post r.chan.port
                ⟨.channelStop, some i, 16 + first.index⟩).noted (r.chan :: k.partner.toList) true false).checkPhase
              r.chan)))
      ∧ ∀ m, answer = none → 2 ≤ k.badCount →
        m = (match k.partner with
          | some d => min k.accumulator (s.chan d).accumulator
          | none => k.accumulator) →
        exec (.sensorReadComplete answer) s = .next
          (((((s.modPlate i fun p =>
              { p with marks := { p.marks with sensorFail := true } }.addDose r.chan.phase m).runOver r.chan
                { k with
                  state := .failed
                  badCount := k.badCount + 1
                  interval := none
                  readOutstanding := false } answer).post r.chan.port
              ⟨.channelStop, some i, 48 + r.chan.index⟩).noted (r.chan :: k.partner.toList) false true).checkPhase
            r.chan))

/-- A frame phase ends, and a finishing run ends, when none of its channels is RUNNING or PAUSED: PHASE_END is posted,
with the slot of the plate on lane A or in the position (R83, R86, R158). -/
def Obligations.PhasesEndWithTheirLastChannel : Prop :=
  ∀ (s : State) (c : Chan),
    (c.lane.isSome = true → s.frame.state = .backRun →
      s.checkPhase c = if s.chanActive .backA || s.chanActive .backB then s
        else State.post { s with frame := { s.frame with state := .backEnd } } .E ⟨.phaseEnd, s.frame.laneA.slot, 0⟩)
    ∧ (c.lane.isSome = true → s.frame.state = .faceRun →
      s.checkPhase c = if s.chanActive .faceA || s.chanActive .faceB then s
        else State.post { s with frame := { s.frame with state := .faceEnd } } .E ⟨.phaseEnd, s.frame.laneA.slot, 1⟩)
    ∧ (c.lane = none → s.finisher.state = .running →
      s.checkPhase c = if s.chanActive .detack || s.chanActive .post then s
        else State.post { s with finisher := { s.finisher with state := .ended } } .D ⟨.phaseEnd, s.finisher.slot, 2⟩)

/-! ### Whole-machine rules -/

/-- A mark of a plate record, once set, stays set until the slot becomes FREE; PURGE and power-on reset empty the set
(R7). -/
def Obligations.AMarkStaysSet : Prop :=
  (∀ (c : Instr) (s t : State) (i : Slot) (k : Mark), exec c s = .next t → (s.plate i).state ≠ .free →
    (t.plate i).state ≠ .free → (s.plate i).marks.has k = true → (t.plate i).marks.has k = true)
  ∧ (∀ (s t : State) (b : Byte) (i : Slot) (k : Mark), exec (.purge b) s = .next t → (s.plate i).state ≠ .free →
    (t.plate i).state = .free → (t.plate i).marks.has k = false)
  ∧ ∀ (s t : State) (i : Slot) (k : Mark), exec .powerOnReset s = .next t → (t.plate i).marks.has k = false

/-- Every step keeps every port's attention state as chapter 10 gives it: in priority order, no two entries of one class
and slot, at most sixteen, and the frozen entry present and eligible (R164, R166 to R169). -/
def Obligations.EveryStepKeepsTheEventQueues : Prop :=
  ∀ s t : State, (∀ p, AttentionOk (s.port p).attn) → step s = .next t → ∀ p, AttentionOk (t.port p).attn

/-- Every step keeps every configuration item in its range and the two pairs in order (R185), every type record cleared or
in range (R27), and every delivered dose within its range (R4). It keeps the figures of the plate records within the ranges
of 1.1.1, and the type of a plate that may still need it valid (R32); the figures of the channels within those of R101; each
bank's reference irradiance (R51) and warm timer (R95) in range; and M in range (R58, R126). -/
def Obligations.EveryStepKeepsTheFiguresInRange : Prop :=
  ∀ s t : State, step s = .next t →
    (SettingsOk s → SettingsOk t) ∧ (TypesOk s → TypesOk t) ∧ (DosesOk s → DosesOk t)
    ∧ (SettingsOk s → TypesOk s → Located s → PlatesOk s →
      PlatesOk t ∧ (LightInRange s → LightInRange t) ∧ (SolventOk s → MassOk s → MassOk t))
    ∧ (SettingsOk s → LightInRange s → BanksInRange s → BanksInRange t)

/-- Every step keeps the gate and the warn flag in accord with the loading, at most three plates in transit, none of them
while M is unknown, and the overdue timers within their range (R124 to R129). -/
def Obligations.EveryStepKeepsTheSolventAccount : Prop :=
  ∀ s t : State, SettingsOk s → SolventOk s → step s = .next t → SolventOk t

/-- Every step keeps each channel's record in accord with its state, with the due list and the link, with its pair, with
its bank, and with the phase of the frame or of the finisher (R78, R79, R83, R86, R94, R101 to R107, R114, R116 to R119,
R155, R158). -/
def Obligations.EveryStepKeepsTheLightChannels : Prop :=
  ∀ s t : State, LightOk s → PhasesOk s → LitOk s → step s = .next t → LightOk t ∧ PhasesOk t ∧ LitOk t

/-- Every step keeps every plate in the location of its state and in no other, and its drying time as chapter 8 gives it
(R1, R3, R5, R62, R143, R146, R155). The channels count for the plates of the frame and of the finisher alone
(`PhasesOk`, which the steps keep as well). -/
def Obligations.EveryStepKeepsThePlatesLocated : Prop :=
  ∀ s t : State, Located s → PhasesOk s → step s = .next t → Located t ∧ (DryTimesOk s → DryTimesOk t)

/-- The state after reset meets every invariant that the steps keep. -/
def Obligations.ResetMeetsEveryInvariant : Prop :=
  (∀ p, AttentionOk (State.reset.port p).attn) ∧ SettingsOk State.reset ∧ TypesOk State.reset ∧ DosesOk State.reset
    ∧ PlatesOk State.reset ∧ LightInRange State.reset ∧ BanksInRange State.reset ∧ MassOk State.reset
    ∧ SolventOk State.reset ∧ LightOk State.reset ∧ PhasesOk State.reset ∧ LitOk State.reset ∧ Located State.reset
    ∧ DryTimesOk State.reset
end

