-- ==== Sys2Proof/Laws/State.lean ====
section
/-! SUPPORT. What each update of the state leaves alone, field by field and record by record: every lemma is true by
computation and is a simplification rule. Then, for each table of records, what is read after a write. -/

namespace Sys2Proof.Machine

/-! ### modPlate -/

@[simp] theorem State.modPlate_rstLow (s : State) (j : Slot) (f : Plate → Plate) : (s.modPlate j f).rstLow = s.rstLow :=
  rfl
@[simp] theorem State.modPlate_types (s : State) (j : Slot) (f : Plate → Plate) : (s.modPlate j f).types = s.types :=
  rfl
@[simp] theorem State.modPlate_pointer (s : State) (j : Slot) (f : Plate → Plate) : (s.modPlate j f).pointer = s.pointer :=
  rfl
@[simp] theorem State.modPlate_exposureQ (s : State) (j : Slot) (f : Plate → Plate) : (s.modPlate j f).exposureQ = s.exposureQ :=
  rfl
@[simp] theorem State.modPlate_frame (s : State) (j : Slot) (f : Plate → Plate) : (s.modPlate j f).frame = s.frame :=
  rfl
@[simp] theorem State.modPlate_banks (s : State) (j : Slot) (f : Plate → Plate) : (s.modPlate j f).banks = s.banks :=
  rfl
@[simp] theorem State.modPlate_chans (s : State) (j : Slot) (f : Plate → Plate) : (s.modPlate j f).chans = s.chans :=
  rfl
@[simp] theorem State.modPlate_link (s : State) (j : Slot) (f : Plate → Plate) : (s.modPlate j f).link = s.link := rfl
@[simp] theorem State.modPlate_washQ (s : State) (j : Slot) (f : Plate → Plate) : (s.modPlate j f).washQ = s.washQ :=
  rfl
@[simp] theorem State.modPlate_transit (s : State) (j : Slot) (f : Plate → Plate) : (s.modPlate j f).transit = s.transit :=
  rfl
@[simp] theorem State.modPlate_solvent (s : State) (j : Slot) (f : Plate → Plate) : (s.modPlate j f).solvent = s.solvent :=
  rfl
@[simp] theorem State.modPlate_dryerQ (s : State) (j : Slot) (f : Plate → Plate) : (s.modPlate j f).dryerQ = s.dryerQ :=
  rfl
@[simp] theorem State.modPlate_drawers (s : State) (j : Slot) (f : Plate → Plate) : (s.modPlate j f).drawers = s.drawers :=
  rfl
@[simp] theorem State.modPlate_finisherQ (s : State) (j : Slot) (f : Plate → Plate) : (s.modPlate j f).finisherQ = s.finisherQ :=
  rfl
@[simp] theorem State.modPlate_finisher (s : State) (j : Slot) (f : Plate → Plate) : (s.modPlate j f).finisher = s.finisher :=
  rfl
@[simp] theorem State.modPlate_ports (s : State) (j : Slot) (f : Plate → Plate) : (s.modPlate j f).ports = s.ports :=
  rfl
@[simp] theorem State.modPlate_config (s : State) (j : Slot) (f : Plate → Plate) : (s.modPlate j f).config = s.config :=
  rfl
@[simp] theorem State.modPlate_strayCount (s : State) (j : Slot) (f : Plate → Plate) : (s.modPlate j f).strayCount = s.strayCount :=
  rfl
@[simp] theorem State.modPlate_pending (s : State) (j : Slot) (f : Plate → Plate) : (s.modPlate j f).pending = s.pending :=
  rfl
@[simp] theorem State.modPlate_typeRec (s : State) (j : Slot) (f : Plate → Plate) (k : Fin 16) :
    (s.modPlate j f).typeRec k = s.typeRec k := rfl
@[simp] theorem State.modPlate_chan (s : State) (j : Slot) (f : Plate → Plate) (c : Chan) :
    (s.modPlate j f).chan c = s.chan c := rfl
@[simp] theorem State.modPlate_bank (s : State) (j : Slot) (f : Plate → Plate) (b : Bank) :
    (s.modPlate j f).bank b = s.bank b := rfl
@[simp] theorem State.modPlate_drawer (s : State) (j : Slot) (f : Plate → Plate) (d : DrawerIx) :
    (s.modPlate j f).drawer d = s.drawer d := rfl
@[simp] theorem State.modPlate_port (s : State) (j : Slot) (f : Plate → Plate) (p : Port) :
    (s.modPlate j f).port p = s.port p := rfl
@[simp] theorem State.modPlate_item (s : State) (j : Slot) (f : Plate → Plate) (x : Item) :
    (s.modPlate j f).item x = s.item x := rfl

/-! ### modPlate? -/

@[simp] theorem State.modPlateOpt_rstLow (s : State) (o : Option Slot) (f : Plate → Plate) : (s.modPlate? o f).rstLow = s.rstLow :=
  by cases o <;> rfl
@[simp] theorem State.modPlateOpt_types (s : State) (o : Option Slot) (f : Plate → Plate) : (s.modPlate? o f).types = s.types :=
  by cases o <;> rfl
@[simp] theorem State.modPlateOpt_pointer (s : State) (o : Option Slot) (f : Plate → Plate) : (s.modPlate? o f).pointer = s.pointer :=
  by cases o <;> rfl
@[simp] theorem State.modPlateOpt_exposureQ (s : State) (o : Option Slot) (f : Plate → Plate) : (s.modPlate? o f).exposureQ = s.exposureQ :=
  by cases o <;> rfl
@[simp] theorem State.modPlateOpt_frame (s : State) (o : Option Slot) (f : Plate → Plate) : (s.modPlate? o f).frame = s.frame :=
  by cases o <;> rfl
@[simp] theorem State.modPlateOpt_banks (s : State) (o : Option Slot) (f : Plate → Plate) : (s.modPlate? o f).banks = s.banks :=
  by cases o <;> rfl
@[simp] theorem State.modPlateOpt_chans (s : State) (o : Option Slot) (f : Plate → Plate) : (s.modPlate? o f).chans = s.chans :=
  by cases o <;> rfl
@[simp] theorem State.modPlateOpt_link (s : State) (o : Option Slot) (f : Plate → Plate) : (s.modPlate? o f).link = s.link :=
  by cases o <;> rfl
@[simp] theorem State.modPlateOpt_washQ (s : State) (o : Option Slot) (f : Plate → Plate) : (s.modPlate? o f).washQ = s.washQ :=
  by cases o <;> rfl
@[simp] theorem State.modPlateOpt_transit (s : State) (o : Option Slot) (f : Plate → Plate) : (s.modPlate? o f).transit = s.transit :=
  by cases o <;> rfl
@[simp] theorem State.modPlateOpt_solvent (s : State) (o : Option Slot) (f : Plate → Plate) : (s.modPlate? o f).solvent = s.solvent :=
  by cases o <;> rfl
@[simp] theorem State.modPlateOpt_dryerQ (s : State) (o : Option Slot) (f : Plate → Plate) : (s.modPlate? o f).dryerQ = s.dryerQ :=
  by cases o <;> rfl
@[simp] theorem State.modPlateOpt_drawers (s : State) (o : Option Slot) (f : Plate → Plate) : (s.modPlate? o f).drawers = s.drawers :=
  by cases o <;> rfl
@[simp] theorem State.modPlateOpt_finisherQ (s : State) (o : Option Slot) (f : Plate → Plate) : (s.modPlate? o f).finisherQ = s.finisherQ :=
  by cases o <;> rfl
@[simp] theorem State.modPlateOpt_finisher (s : State) (o : Option Slot) (f : Plate → Plate) : (s.modPlate? o f).finisher = s.finisher :=
  by cases o <;> rfl
@[simp] theorem State.modPlateOpt_ports (s : State) (o : Option Slot) (f : Plate → Plate) : (s.modPlate? o f).ports = s.ports :=
  by cases o <;> rfl
@[simp] theorem State.modPlateOpt_config (s : State) (o : Option Slot) (f : Plate → Plate) : (s.modPlate? o f).config = s.config :=
  by cases o <;> rfl
@[simp] theorem State.modPlateOpt_strayCount (s : State) (o : Option Slot) (f : Plate → Plate) : (s.modPlate? o f).strayCount = s.strayCount :=
  by cases o <;> rfl
@[simp] theorem State.modPlateOpt_pending (s : State) (o : Option Slot) (f : Plate → Plate) : (s.modPlate? o f).pending = s.pending :=
  by cases o <;> rfl
@[simp] theorem State.modPlateOpt_typeRec (s : State) (o : Option Slot) (f : Plate → Plate) (k : Fin 16) :
    (s.modPlate? o f).typeRec k = s.typeRec k := by cases o <;> rfl
@[simp] theorem State.modPlateOpt_chan (s : State) (o : Option Slot) (f : Plate → Plate) (c : Chan) :
    (s.modPlate? o f).chan c = s.chan c := by cases o <;> rfl
@[simp] theorem State.modPlateOpt_bank (s : State) (o : Option Slot) (f : Plate → Plate) (b : Bank) :
    (s.modPlate? o f).bank b = s.bank b := by cases o <;> rfl
@[simp] theorem State.modPlateOpt_drawer (s : State) (o : Option Slot) (f : Plate → Plate) (d : DrawerIx) :
    (s.modPlate? o f).drawer d = s.drawer d := by cases o <;> rfl
@[simp] theorem State.modPlateOpt_port (s : State) (o : Option Slot) (f : Plate → Plate) (p : Port) :
    (s.modPlate? o f).port p = s.port p := by cases o <;> rfl
@[simp] theorem State.modPlateOpt_item (s : State) (o : Option Slot) (f : Plate → Plate) (x : Item) :
    (s.modPlate? o f).item x = s.item x := by cases o <;> rfl

/-! ### setType -/

@[simp] theorem State.setType_rstLow (s : State) (t : Fin 16) (r : TypeRec) : (s.setType t r).rstLow = s.rstLow := rfl
@[simp] theorem State.setType_plates (s : State) (t : Fin 16) (r : TypeRec) : (s.setType t r).plates = s.plates := rfl
@[simp] theorem State.setType_pointer (s : State) (t : Fin 16) (r : TypeRec) : (s.setType t r).pointer = s.pointer :=
  rfl
@[simp] theorem State.setType_exposureQ (s : State) (t : Fin 16) (r : TypeRec) : (s.setType t r).exposureQ = s.exposureQ :=
  rfl
@[simp] theorem State.setType_frame (s : State) (t : Fin 16) (r : TypeRec) : (s.setType t r).frame = s.frame := rfl
@[simp] theorem State.setType_banks (s : State) (t : Fin 16) (r : TypeRec) : (s.setType t r).banks = s.banks := rfl
@[simp] theorem State.setType_chans (s : State) (t : Fin 16) (r : TypeRec) : (s.setType t r).chans = s.chans := rfl
@[simp] theorem State.setType_link (s : State) (t : Fin 16) (r : TypeRec) : (s.setType t r).link = s.link := rfl
@[simp] theorem State.setType_washQ (s : State) (t : Fin 16) (r : TypeRec) : (s.setType t r).washQ = s.washQ := rfl
@[simp] theorem State.setType_transit (s : State) (t : Fin 16) (r : TypeRec) : (s.setType t r).transit = s.transit :=
  rfl
@[simp] theorem State.setType_solvent (s : State) (t : Fin 16) (r : TypeRec) : (s.setType t r).solvent = s.solvent :=
  rfl
@[simp] theorem State.setType_dryerQ (s : State) (t : Fin 16) (r : TypeRec) : (s.setType t r).dryerQ = s.dryerQ := rfl
@[simp] theorem State.setType_drawers (s : State) (t : Fin 16) (r : TypeRec) : (s.setType t r).drawers = s.drawers :=
  rfl
@[simp] theorem State.setType_finisherQ (s : State) (t : Fin 16) (r : TypeRec) : (s.setType t r).finisherQ = s.finisherQ :=
  rfl
@[simp] theorem State.setType_finisher (s : State) (t : Fin 16) (r : TypeRec) : (s.setType t r).finisher = s.finisher :=
  rfl
@[simp] theorem State.setType_ports (s : State) (t : Fin 16) (r : TypeRec) : (s.setType t r).ports = s.ports := rfl
@[simp] theorem State.setType_config (s : State) (t : Fin 16) (r : TypeRec) : (s.setType t r).config = s.config := rfl
@[simp] theorem State.setType_strayCount (s : State) (t : Fin 16) (r : TypeRec) : (s.setType t r).strayCount = s.strayCount :=
  rfl
@[simp] theorem State.setType_pending (s : State) (t : Fin 16) (r : TypeRec) : (s.setType t r).pending = s.pending :=
  rfl
@[simp] theorem State.setType_plate (s : State) (t : Fin 16) (r : TypeRec) (i : Slot) :
    (s.setType t r).plate i = s.plate i := rfl
@[simp] theorem State.setType_chan (s : State) (t : Fin 16) (r : TypeRec) (c : Chan) :
    (s.setType t r).chan c = s.chan c := rfl
@[simp] theorem State.setType_bank (s : State) (t : Fin 16) (r : TypeRec) (b : Bank) :
    (s.setType t r).bank b = s.bank b := rfl
@[simp] theorem State.setType_drawer (s : State) (t : Fin 16) (r : TypeRec) (d : DrawerIx) :
    (s.setType t r).drawer d = s.drawer d := rfl
@[simp] theorem State.setType_port (s : State) (t : Fin 16) (r : TypeRec) (p : Port) :
    (s.setType t r).port p = s.port p := rfl
@[simp] theorem State.setType_item (s : State) (t : Fin 16) (r : TypeRec) (x : Item) :
    (s.setType t r).item x = s.item x := rfl

/-! ### modChan -/

@[simp] theorem State.modChan_rstLow (s : State) (e : Chan) (f : Channel → Channel) : (s.modChan e f).rstLow = s.rstLow :=
  rfl
@[simp] theorem State.modChan_plates (s : State) (e : Chan) (f : Channel → Channel) : (s.modChan e f).plates = s.plates :=
  rfl
@[simp] theorem State.modChan_types (s : State) (e : Chan) (f : Channel → Channel) : (s.modChan e f).types = s.types :=
  rfl
@[simp] theorem State.modChan_pointer (s : State) (e : Chan) (f : Channel → Channel) : (s.modChan e f).pointer = s.pointer :=
  rfl
@[simp] theorem State.modChan_exposureQ (s : State) (e : Chan) (f : Channel → Channel) : (s.modChan e f).exposureQ = s.exposureQ :=
  rfl
@[simp] theorem State.modChan_frame (s : State) (e : Chan) (f : Channel → Channel) : (s.modChan e f).frame = s.frame :=
  rfl
@[simp] theorem State.modChan_banks (s : State) (e : Chan) (f : Channel → Channel) : (s.modChan e f).banks = s.banks :=
  rfl
@[simp] theorem State.modChan_link (s : State) (e : Chan) (f : Channel → Channel) : (s.modChan e f).link = s.link :=
  rfl
@[simp] theorem State.modChan_washQ (s : State) (e : Chan) (f : Channel → Channel) : (s.modChan e f).washQ = s.washQ :=
  rfl
@[simp] theorem State.modChan_transit (s : State) (e : Chan) (f : Channel → Channel) : (s.modChan e f).transit = s.transit :=
  rfl
@[simp] theorem State.modChan_solvent (s : State) (e : Chan) (f : Channel → Channel) : (s.modChan e f).solvent = s.solvent :=
  rfl
@[simp] theorem State.modChan_dryerQ (s : State) (e : Chan) (f : Channel → Channel) : (s.modChan e f).dryerQ = s.dryerQ :=
  rfl
@[simp] theorem State.modChan_drawers (s : State) (e : Chan) (f : Channel → Channel) : (s.modChan e f).drawers = s.drawers :=
  rfl
@[simp] theorem State.modChan_finisherQ (s : State) (e : Chan) (f : Channel → Channel) : (s.modChan e f).finisherQ = s.finisherQ :=
  rfl
@[simp] theorem State.modChan_finisher (s : State) (e : Chan) (f : Channel → Channel) : (s.modChan e f).finisher = s.finisher :=
  rfl
@[simp] theorem State.modChan_ports (s : State) (e : Chan) (f : Channel → Channel) : (s.modChan e f).ports = s.ports :=
  rfl
@[simp] theorem State.modChan_config (s : State) (e : Chan) (f : Channel → Channel) : (s.modChan e f).config = s.config :=
  rfl
@[simp] theorem State.modChan_strayCount (s : State) (e : Chan) (f : Channel → Channel) : (s.modChan e f).strayCount = s.strayCount :=
  rfl
@[simp] theorem State.modChan_pending (s : State) (e : Chan) (f : Channel → Channel) : (s.modChan e f).pending = s.pending :=
  rfl
@[simp] theorem State.modChan_plate (s : State) (e : Chan) (f : Channel → Channel) (i : Slot) :
    (s.modChan e f).plate i = s.plate i := rfl
@[simp] theorem State.modChan_typeRec (s : State) (e : Chan) (f : Channel → Channel) (k : Fin 16) :
    (s.modChan e f).typeRec k = s.typeRec k := rfl
@[simp] theorem State.modChan_bank (s : State) (e : Chan) (f : Channel → Channel) (b : Bank) :
    (s.modChan e f).bank b = s.bank b := rfl
@[simp] theorem State.modChan_drawer (s : State) (e : Chan) (f : Channel → Channel) (d : DrawerIx) :
    (s.modChan e f).drawer d = s.drawer d := rfl
@[simp] theorem State.modChan_port (s : State) (e : Chan) (f : Channel → Channel) (p : Port) :
    (s.modChan e f).port p = s.port p := rfl
@[simp] theorem State.modChan_item (s : State) (e : Chan) (f : Channel → Channel) (x : Item) :
    (s.modChan e f).item x = s.item x := rfl

/-! ### modBank -/

@[simp] theorem State.modBank_rstLow (s : State) (e : Bank) (f : BankRec → BankRec) : (s.modBank e f).rstLow = s.rstLow :=
  rfl
@[simp] theorem State.modBank_plates (s : State) (e : Bank) (f : BankRec → BankRec) : (s.modBank e f).plates = s.plates :=
  rfl
@[simp] theorem State.modBank_types (s : State) (e : Bank) (f : BankRec → BankRec) : (s.modBank e f).types = s.types :=
  rfl
@[simp] theorem State.modBank_pointer (s : State) (e : Bank) (f : BankRec → BankRec) : (s.modBank e f).pointer = s.pointer :=
  rfl
@[simp] theorem State.modBank_exposureQ (s : State) (e : Bank) (f : BankRec → BankRec) : (s.modBank e f).exposureQ = s.exposureQ :=
  rfl
@[simp] theorem State.modBank_frame (s : State) (e : Bank) (f : BankRec → BankRec) : (s.modBank e f).frame = s.frame :=
  rfl
@[simp] theorem State.modBank_chans (s : State) (e : Bank) (f : BankRec → BankRec) : (s.modBank e f).chans = s.chans :=
  rfl
@[simp] theorem State.modBank_link (s : State) (e : Bank) (f : BankRec → BankRec) : (s.modBank e f).link = s.link :=
  rfl
@[simp] theorem State.modBank_washQ (s : State) (e : Bank) (f : BankRec → BankRec) : (s.modBank e f).washQ = s.washQ :=
  rfl
@[simp] theorem State.modBank_transit (s : State) (e : Bank) (f : BankRec → BankRec) : (s.modBank e f).transit = s.transit :=
  rfl
@[simp] theorem State.modBank_solvent (s : State) (e : Bank) (f : BankRec → BankRec) : (s.modBank e f).solvent = s.solvent :=
  rfl
@[simp] theorem State.modBank_dryerQ (s : State) (e : Bank) (f : BankRec → BankRec) : (s.modBank e f).dryerQ = s.dryerQ :=
  rfl
@[simp] theorem State.modBank_drawers (s : State) (e : Bank) (f : BankRec → BankRec) : (s.modBank e f).drawers = s.drawers :=
  rfl
@[simp] theorem State.modBank_finisherQ (s : State) (e : Bank) (f : BankRec → BankRec) : (s.modBank e f).finisherQ = s.finisherQ :=
  rfl
@[simp] theorem State.modBank_finisher (s : State) (e : Bank) (f : BankRec → BankRec) : (s.modBank e f).finisher = s.finisher :=
  rfl
@[simp] theorem State.modBank_ports (s : State) (e : Bank) (f : BankRec → BankRec) : (s.modBank e f).ports = s.ports :=
  rfl
@[simp] theorem State.modBank_config (s : State) (e : Bank) (f : BankRec → BankRec) : (s.modBank e f).config = s.config :=
  rfl
@[simp] theorem State.modBank_strayCount (s : State) (e : Bank) (f : BankRec → BankRec) : (s.modBank e f).strayCount = s.strayCount :=
  rfl
@[simp] theorem State.modBank_pending (s : State) (e : Bank) (f : BankRec → BankRec) : (s.modBank e f).pending = s.pending :=
  rfl
@[simp] theorem State.modBank_plate (s : State) (e : Bank) (f : BankRec → BankRec) (i : Slot) :
    (s.modBank e f).plate i = s.plate i := rfl
@[simp] theorem State.modBank_typeRec (s : State) (e : Bank) (f : BankRec → BankRec) (k : Fin 16) :
    (s.modBank e f).typeRec k = s.typeRec k := rfl
@[simp] theorem State.modBank_chan (s : State) (e : Bank) (f : BankRec → BankRec) (c : Chan) :
    (s.modBank e f).chan c = s.chan c := rfl
@[simp] theorem State.modBank_drawer (s : State) (e : Bank) (f : BankRec → BankRec) (d : DrawerIx) :
    (s.modBank e f).drawer d = s.drawer d := rfl
@[simp] theorem State.modBank_port (s : State) (e : Bank) (f : BankRec → BankRec) (p : Port) :
    (s.modBank e f).port p = s.port p := rfl
@[simp] theorem State.modBank_item (s : State) (e : Bank) (f : BankRec → BankRec) (x : Item) :
    (s.modBank e f).item x = s.item x := rfl

/-! ### modDrawer -/

@[simp] theorem State.modDrawer_rstLow (s : State) (e : DrawerIx) (f : Drawer → Drawer) : (s.modDrawer e f).rstLow = s.rstLow :=
  rfl
@[simp] theorem State.modDrawer_plates (s : State) (e : DrawerIx) (f : Drawer → Drawer) : (s.modDrawer e f).plates = s.plates :=
  rfl
@[simp] theorem State.modDrawer_types (s : State) (e : DrawerIx) (f : Drawer → Drawer) : (s.modDrawer e f).types = s.types :=
  rfl
@[simp] theorem State.modDrawer_pointer (s : State) (e : DrawerIx) (f : Drawer → Drawer) : (s.modDrawer e f).pointer = s.pointer :=
  rfl
@[simp] theorem State.modDrawer_exposureQ (s : State) (e : DrawerIx) (f : Drawer → Drawer) : (s.modDrawer e f).exposureQ = s.exposureQ :=
  rfl
@[simp] theorem State.modDrawer_frame (s : State) (e : DrawerIx) (f : Drawer → Drawer) : (s.modDrawer e f).frame = s.frame :=
  rfl
@[simp] theorem State.modDrawer_banks (s : State) (e : DrawerIx) (f : Drawer → Drawer) : (s.modDrawer e f).banks = s.banks :=
  rfl
@[simp] theorem State.modDrawer_chans (s : State) (e : DrawerIx) (f : Drawer → Drawer) : (s.modDrawer e f).chans = s.chans :=
  rfl
@[simp] theorem State.modDrawer_link (s : State) (e : DrawerIx) (f : Drawer → Drawer) : (s.modDrawer e f).link = s.link :=
  rfl
@[simp] theorem State.modDrawer_washQ (s : State) (e : DrawerIx) (f : Drawer → Drawer) : (s.modDrawer e f).washQ = s.washQ :=
  rfl
@[simp] theorem State.modDrawer_transit (s : State) (e : DrawerIx) (f : Drawer → Drawer) : (s.modDrawer e f).transit = s.transit :=
  rfl
@[simp] theorem State.modDrawer_solvent (s : State) (e : DrawerIx) (f : Drawer → Drawer) : (s.modDrawer e f).solvent = s.solvent :=
  rfl
@[simp] theorem State.modDrawer_dryerQ (s : State) (e : DrawerIx) (f : Drawer → Drawer) : (s.modDrawer e f).dryerQ = s.dryerQ :=
  rfl
@[simp] theorem State.modDrawer_finisherQ (s : State) (e : DrawerIx) (f : Drawer → Drawer) : (s.modDrawer e f).finisherQ = s.finisherQ :=
  rfl
@[simp] theorem State.modDrawer_finisher (s : State) (e : DrawerIx) (f : Drawer → Drawer) : (s.modDrawer e f).finisher = s.finisher :=
  rfl
@[simp] theorem State.modDrawer_ports (s : State) (e : DrawerIx) (f : Drawer → Drawer) : (s.modDrawer e f).ports = s.ports :=
  rfl
@[simp] theorem State.modDrawer_config (s : State) (e : DrawerIx) (f : Drawer → Drawer) : (s.modDrawer e f).config = s.config :=
  rfl
@[simp] theorem State.modDrawer_strayCount (s : State) (e : DrawerIx) (f : Drawer → Drawer) : (s.modDrawer e f).strayCount = s.strayCount :=
  rfl
@[simp] theorem State.modDrawer_pending (s : State) (e : DrawerIx) (f : Drawer → Drawer) : (s.modDrawer e f).pending = s.pending :=
  rfl
@[simp] theorem State.modDrawer_plate (s : State) (e : DrawerIx) (f : Drawer → Drawer) (i : Slot) :
    (s.modDrawer e f).plate i = s.plate i := rfl
@[simp] theorem State.modDrawer_typeRec (s : State) (e : DrawerIx) (f : Drawer → Drawer) (k : Fin 16) :
    (s.modDrawer e f).typeRec k = s.typeRec k := rfl
@[simp] theorem State.modDrawer_chan (s : State) (e : DrawerIx) (f : Drawer → Drawer) (c : Chan) :
    (s.modDrawer e f).chan c = s.chan c := rfl
@[simp] theorem State.modDrawer_bank (s : State) (e : DrawerIx) (f : Drawer → Drawer) (b : Bank) :
    (s.modDrawer e f).bank b = s.bank b := rfl
@[simp] theorem State.modDrawer_port (s : State) (e : DrawerIx) (f : Drawer → Drawer) (p : Port) :
    (s.modDrawer e f).port p = s.port p := rfl
@[simp] theorem State.modDrawer_item (s : State) (e : DrawerIx) (f : Drawer → Drawer) (x : Item) :
    (s.modDrawer e f).item x = s.item x := rfl

/-! ### modPort -/

@[simp] theorem State.modPort_rstLow (s : State) (q : Port) (f : PortRec → PortRec) : (s.modPort q f).rstLow = s.rstLow :=
  rfl
@[simp] theorem State.modPort_plates (s : State) (q : Port) (f : PortRec → PortRec) : (s.modPort q f).plates = s.plates :=
  rfl
@[simp] theorem State.modPort_types (s : State) (q : Port) (f : PortRec → PortRec) : (s.modPort q f).types = s.types :=
  rfl
@[simp] theorem State.modPort_pointer (s : State) (q : Port) (f : PortRec → PortRec) : (s.modPort q f).pointer = s.pointer :=
  rfl
@[simp] theorem State.modPort_exposureQ (s : State) (q : Port) (f : PortRec → PortRec) : (s.modPort q f).exposureQ = s.exposureQ :=
  rfl
@[simp] theorem State.modPort_frame (s : State) (q : Port) (f : PortRec → PortRec) : (s.modPort q f).frame = s.frame :=
  rfl
@[simp] theorem State.modPort_banks (s : State) (q : Port) (f : PortRec → PortRec) : (s.modPort q f).banks = s.banks :=
  rfl
@[simp] theorem State.modPort_chans (s : State) (q : Port) (f : PortRec → PortRec) : (s.modPort q f).chans = s.chans :=
  rfl
@[simp] theorem State.modPort_link (s : State) (q : Port) (f : PortRec → PortRec) : (s.modPort q f).link = s.link :=
  rfl
@[simp] theorem State.modPort_washQ (s : State) (q : Port) (f : PortRec → PortRec) : (s.modPort q f).washQ = s.washQ :=
  rfl
@[simp] theorem State.modPort_transit (s : State) (q : Port) (f : PortRec → PortRec) : (s.modPort q f).transit = s.transit :=
  rfl
@[simp] theorem State.modPort_solvent (s : State) (q : Port) (f : PortRec → PortRec) : (s.modPort q f).solvent = s.solvent :=
  rfl
@[simp] theorem State.modPort_dryerQ (s : State) (q : Port) (f : PortRec → PortRec) : (s.modPort q f).dryerQ = s.dryerQ :=
  rfl
@[simp] theorem State.modPort_drawers (s : State) (q : Port) (f : PortRec → PortRec) : (s.modPort q f).drawers = s.drawers :=
  rfl
@[simp] theorem State.modPort_finisherQ (s : State) (q : Port) (f : PortRec → PortRec) : (s.modPort q f).finisherQ = s.finisherQ :=
  rfl
@[simp] theorem State.modPort_finisher (s : State) (q : Port) (f : PortRec → PortRec) : (s.modPort q f).finisher = s.finisher :=
  rfl
@[simp] theorem State.modPort_config (s : State) (q : Port) (f : PortRec → PortRec) : (s.modPort q f).config = s.config :=
  rfl
@[simp] theorem State.modPort_strayCount (s : State) (q : Port) (f : PortRec → PortRec) : (s.modPort q f).strayCount = s.strayCount :=
  rfl
@[simp] theorem State.modPort_pending (s : State) (q : Port) (f : PortRec → PortRec) : (s.modPort q f).pending = s.pending :=
  rfl
@[simp] theorem State.modPort_plate (s : State) (q : Port) (f : PortRec → PortRec) (i : Slot) :
    (s.modPort q f).plate i = s.plate i := rfl
@[simp] theorem State.modPort_typeRec (s : State) (q : Port) (f : PortRec → PortRec) (k : Fin 16) :
    (s.modPort q f).typeRec k = s.typeRec k := rfl
@[simp] theorem State.modPort_chan (s : State) (q : Port) (f : PortRec → PortRec) (c : Chan) :
    (s.modPort q f).chan c = s.chan c := rfl
@[simp] theorem State.modPort_bank (s : State) (q : Port) (f : PortRec → PortRec) (b : Bank) :
    (s.modPort q f).bank b = s.bank b := rfl
@[simp] theorem State.modPort_drawer (s : State) (q : Port) (f : PortRec → PortRec) (d : DrawerIx) :
    (s.modPort q f).drawer d = s.drawer d := rfl
@[simp] theorem State.modPort_item (s : State) (q : Port) (f : PortRec → PortRec) (x : Item) :
    (s.modPort q f).item x = s.item x := rfl

/-! ### setItem -/

@[simp] theorem State.setItem_rstLow (s : State) (y : Item) (v : Nat) : (s.setItem y v).rstLow = s.rstLow := rfl
@[simp] theorem State.setItem_plates (s : State) (y : Item) (v : Nat) : (s.setItem y v).plates = s.plates := rfl
@[simp] theorem State.setItem_types (s : State) (y : Item) (v : Nat) : (s.setItem y v).types = s.types := rfl
@[simp] theorem State.setItem_pointer (s : State) (y : Item) (v : Nat) : (s.setItem y v).pointer = s.pointer := rfl
@[simp] theorem State.setItem_exposureQ (s : State) (y : Item) (v : Nat) : (s.setItem y v).exposureQ = s.exposureQ :=
  rfl
@[simp] theorem State.setItem_frame (s : State) (y : Item) (v : Nat) : (s.setItem y v).frame = s.frame := rfl
@[simp] theorem State.setItem_banks (s : State) (y : Item) (v : Nat) : (s.setItem y v).banks = s.banks := rfl
@[simp] theorem State.setItem_chans (s : State) (y : Item) (v : Nat) : (s.setItem y v).chans = s.chans := rfl
@[simp] theorem State.setItem_link (s : State) (y : Item) (v : Nat) : (s.setItem y v).link = s.link := rfl
@[simp] theorem State.setItem_washQ (s : State) (y : Item) (v : Nat) : (s.setItem y v).washQ = s.washQ := rfl
@[simp] theorem State.setItem_transit (s : State) (y : Item) (v : Nat) : (s.setItem y v).transit = s.transit := rfl
@[simp] theorem State.setItem_solvent (s : State) (y : Item) (v : Nat) : (s.setItem y v).solvent = s.solvent := rfl
@[simp] theorem State.setItem_dryerQ (s : State) (y : Item) (v : Nat) : (s.setItem y v).dryerQ = s.dryerQ := rfl
@[simp] theorem State.setItem_drawers (s : State) (y : Item) (v : Nat) : (s.setItem y v).drawers = s.drawers := rfl
@[simp] theorem State.setItem_finisherQ (s : State) (y : Item) (v : Nat) : (s.setItem y v).finisherQ = s.finisherQ :=
  rfl
@[simp] theorem State.setItem_finisher (s : State) (y : Item) (v : Nat) : (s.setItem y v).finisher = s.finisher := rfl
@[simp] theorem State.setItem_ports (s : State) (y : Item) (v : Nat) : (s.setItem y v).ports = s.ports := rfl
@[simp] theorem State.setItem_strayCount (s : State) (y : Item) (v : Nat) : (s.setItem y v).strayCount = s.strayCount :=
  rfl
@[simp] theorem State.setItem_pending (s : State) (y : Item) (v : Nat) : (s.setItem y v).pending = s.pending := rfl
@[simp] theorem State.setItem_plate (s : State) (y : Item) (v : Nat) (i : Slot) :
    (s.setItem y v).plate i = s.plate i := rfl
@[simp] theorem State.setItem_typeRec (s : State) (y : Item) (v : Nat) (k : Fin 16) :
    (s.setItem y v).typeRec k = s.typeRec k := rfl
@[simp] theorem State.setItem_chan (s : State) (y : Item) (v : Nat) (c : Chan) :
    (s.setItem y v).chan c = s.chan c := rfl
@[simp] theorem State.setItem_bank (s : State) (y : Item) (v : Nat) (b : Bank) :
    (s.setItem y v).bank b = s.bank b := rfl
@[simp] theorem State.setItem_drawer (s : State) (y : Item) (v : Nat) (d : DrawerIx) :
    (s.setItem y v).drawer d = s.drawer d := rfl
@[simp] theorem State.setItem_port (s : State) (y : Item) (v : Nat) (p : Port) :
    (s.setItem y v).port p = s.port p := rfl

/-! ### setFrameState -/

@[simp] theorem State.setFrameState_rstLow (s : State) (st : FrameState) : (s.setFrameState st).rstLow = s.rstLow :=
  rfl
@[simp] theorem State.setFrameState_plates (s : State) (st : FrameState) : (s.setFrameState st).plates = s.plates :=
  rfl
@[simp] theorem State.setFrameState_types (s : State) (st : FrameState) : (s.setFrameState st).types = s.types := rfl
@[simp] theorem State.setFrameState_pointer (s : State) (st : FrameState) : (s.setFrameState st).pointer = s.pointer :=
  rfl
@[simp] theorem State.setFrameState_exposureQ (s : State) (st : FrameState) : (s.setFrameState st).exposureQ = s.exposureQ :=
  rfl
@[simp] theorem State.setFrameState_banks (s : State) (st : FrameState) : (s.setFrameState st).banks = s.banks := rfl
@[simp] theorem State.setFrameState_chans (s : State) (st : FrameState) : (s.setFrameState st).chans = s.chans := rfl
@[simp] theorem State.setFrameState_link (s : State) (st : FrameState) : (s.setFrameState st).link = s.link := rfl
@[simp] theorem State.setFrameState_washQ (s : State) (st : FrameState) : (s.setFrameState st).washQ = s.washQ := rfl
@[simp] theorem State.setFrameState_transit (s : State) (st : FrameState) : (s.setFrameState st).transit = s.transit :=
  rfl
@[simp] theorem State.setFrameState_solvent (s : State) (st : FrameState) : (s.setFrameState st).solvent = s.solvent :=
  rfl
@[simp] theorem State.setFrameState_dryerQ (s : State) (st : FrameState) : (s.setFrameState st).dryerQ = s.dryerQ :=
  rfl
@[simp] theorem State.setFrameState_drawers (s : State) (st : FrameState) : (s.setFrameState st).drawers = s.drawers :=
  rfl
@[simp] theorem State.setFrameState_finisherQ (s : State) (st : FrameState) : (s.setFrameState st).finisherQ = s.finisherQ :=
  rfl
@[simp] theorem State.setFrameState_finisher (s : State) (st : FrameState) : (s.setFrameState st).finisher = s.finisher :=
  rfl
@[simp] theorem State.setFrameState_ports (s : State) (st : FrameState) : (s.setFrameState st).ports = s.ports := rfl
@[simp] theorem State.setFrameState_config (s : State) (st : FrameState) : (s.setFrameState st).config = s.config :=
  rfl
@[simp] theorem State.setFrameState_strayCount (s : State) (st : FrameState) : (s.setFrameState st).strayCount = s.strayCount :=
  rfl
@[simp] theorem State.setFrameState_pending (s : State) (st : FrameState) : (s.setFrameState st).pending = s.pending :=
  rfl
@[simp] theorem State.setFrameState_plate (s : State) (st : FrameState) (i : Slot) :
    (s.setFrameState st).plate i = s.plate i := rfl
@[simp] theorem State.setFrameState_typeRec (s : State) (st : FrameState) (k : Fin 16) :
    (s.setFrameState st).typeRec k = s.typeRec k := rfl
@[simp] theorem State.setFrameState_chan (s : State) (st : FrameState) (c : Chan) :
    (s.setFrameState st).chan c = s.chan c := rfl
@[simp] theorem State.setFrameState_bank (s : State) (st : FrameState) (b : Bank) :
    (s.setFrameState st).bank b = s.bank b := rfl
@[simp] theorem State.setFrameState_drawer (s : State) (st : FrameState) (d : DrawerIx) :
    (s.setFrameState st).drawer d = s.drawer d := rfl
@[simp] theorem State.setFrameState_port (s : State) (st : FrameState) (p : Port) :
    (s.setFrameState st).port p = s.port p := rfl
@[simp] theorem State.setFrameState_item (s : State) (st : FrameState) (x : Item) :
    (s.setFrameState st).item x = s.item x := rfl

/-! ### setMass -/

@[simp] theorem State.setMass_rstLow (s : State) (m : Nat) : (s.setMass m).rstLow = s.rstLow := rfl
@[simp] theorem State.setMass_plates (s : State) (m : Nat) : (s.setMass m).plates = s.plates := rfl
@[simp] theorem State.setMass_types (s : State) (m : Nat) : (s.setMass m).types = s.types := rfl
@[simp] theorem State.setMass_pointer (s : State) (m : Nat) : (s.setMass m).pointer = s.pointer := rfl
@[simp] theorem State.setMass_exposureQ (s : State) (m : Nat) : (s.setMass m).exposureQ = s.exposureQ := rfl
@[simp] theorem State.setMass_frame (s : State) (m : Nat) : (s.setMass m).frame = s.frame := rfl
@[simp] theorem State.setMass_banks (s : State) (m : Nat) : (s.setMass m).banks = s.banks := rfl
@[simp] theorem State.setMass_chans (s : State) (m : Nat) : (s.setMass m).chans = s.chans := rfl
@[simp] theorem State.setMass_link (s : State) (m : Nat) : (s.setMass m).link = s.link := rfl
@[simp] theorem State.setMass_washQ (s : State) (m : Nat) : (s.setMass m).washQ = s.washQ := rfl
@[simp] theorem State.setMass_transit (s : State) (m : Nat) : (s.setMass m).transit = s.transit := rfl
@[simp] theorem State.setMass_dryerQ (s : State) (m : Nat) : (s.setMass m).dryerQ = s.dryerQ := rfl
@[simp] theorem State.setMass_drawers (s : State) (m : Nat) : (s.setMass m).drawers = s.drawers := rfl
@[simp] theorem State.setMass_finisherQ (s : State) (m : Nat) : (s.setMass m).finisherQ = s.finisherQ := rfl
@[simp] theorem State.setMass_finisher (s : State) (m : Nat) : (s.setMass m).finisher = s.finisher := rfl
@[simp] theorem State.setMass_ports (s : State) (m : Nat) : (s.setMass m).ports = s.ports := rfl
@[simp] theorem State.setMass_config (s : State) (m : Nat) : (s.setMass m).config = s.config := rfl
@[simp] theorem State.setMass_strayCount (s : State) (m : Nat) : (s.setMass m).strayCount = s.strayCount := rfl
@[simp] theorem State.setMass_pending (s : State) (m : Nat) : (s.setMass m).pending = s.pending := rfl
@[simp] theorem State.setMass_plate (s : State) (m : Nat) (i : Slot) : (s.setMass m).plate i = s.plate i := rfl
@[simp] theorem State.setMass_typeRec (s : State) (m : Nat) (k : Fin 16) :
    (s.setMass m).typeRec k = s.typeRec k := rfl
@[simp] theorem State.setMass_chan (s : State) (m : Nat) (c : Chan) : (s.setMass m).chan c = s.chan c := rfl
@[simp] theorem State.setMass_bank (s : State) (m : Nat) (b : Bank) : (s.setMass m).bank b = s.bank b := rfl
@[simp] theorem State.setMass_drawer (s : State) (m : Nat) (d : DrawerIx) : (s.setMass m).drawer d = s.drawer d := rfl
@[simp] theorem State.setMass_port (s : State) (m : Nat) (p : Port) : (s.setMass m).port p = s.port p := rfl
@[simp] theorem State.setMass_item (s : State) (m : Nat) (x : Item) : (s.setMass m).item x = s.item x := rfl

/-! ### leaveTransit -/

@[simp] theorem State.leaveTransit_rstLow (s : State) (j : Slot) : (s.leaveTransit j).rstLow = s.rstLow := rfl
@[simp] theorem State.leaveTransit_plates (s : State) (j : Slot) : (s.leaveTransit j).plates = s.plates := rfl
@[simp] theorem State.leaveTransit_types (s : State) (j : Slot) : (s.leaveTransit j).types = s.types := rfl
@[simp] theorem State.leaveTransit_pointer (s : State) (j : Slot) : (s.leaveTransit j).pointer = s.pointer := rfl
@[simp] theorem State.leaveTransit_exposureQ (s : State) (j : Slot) : (s.leaveTransit j).exposureQ = s.exposureQ :=
  rfl
@[simp] theorem State.leaveTransit_frame (s : State) (j : Slot) : (s.leaveTransit j).frame = s.frame := rfl
@[simp] theorem State.leaveTransit_banks (s : State) (j : Slot) : (s.leaveTransit j).banks = s.banks := rfl
@[simp] theorem State.leaveTransit_chans (s : State) (j : Slot) : (s.leaveTransit j).chans = s.chans := rfl
@[simp] theorem State.leaveTransit_link (s : State) (j : Slot) : (s.leaveTransit j).link = s.link := rfl
@[simp] theorem State.leaveTransit_washQ (s : State) (j : Slot) : (s.leaveTransit j).washQ = s.washQ := rfl
@[simp] theorem State.leaveTransit_solvent (s : State) (j : Slot) : (s.leaveTransit j).solvent = s.solvent := rfl
@[simp] theorem State.leaveTransit_dryerQ (s : State) (j : Slot) : (s.leaveTransit j).dryerQ = s.dryerQ := rfl
@[simp] theorem State.leaveTransit_drawers (s : State) (j : Slot) : (s.leaveTransit j).drawers = s.drawers := rfl
@[simp] theorem State.leaveTransit_finisherQ (s : State) (j : Slot) : (s.leaveTransit j).finisherQ = s.finisherQ :=
  rfl
@[simp] theorem State.leaveTransit_finisher (s : State) (j : Slot) : (s.leaveTransit j).finisher = s.finisher := rfl
@[simp] theorem State.leaveTransit_ports (s : State) (j : Slot) : (s.leaveTransit j).ports = s.ports := rfl
@[simp] theorem State.leaveTransit_config (s : State) (j : Slot) : (s.leaveTransit j).config = s.config := rfl
@[simp] theorem State.leaveTransit_strayCount (s : State) (j : Slot) : (s.leaveTransit j).strayCount = s.strayCount :=
  rfl
@[simp] theorem State.leaveTransit_pending (s : State) (j : Slot) : (s.leaveTransit j).pending = s.pending := rfl
@[simp] theorem State.leaveTransit_plate (s : State) (j : Slot) (i : Slot) :
    (s.leaveTransit j).plate i = s.plate i := rfl
@[simp] theorem State.leaveTransit_typeRec (s : State) (j : Slot) (k : Fin 16) :
    (s.leaveTransit j).typeRec k = s.typeRec k := rfl
@[simp] theorem State.leaveTransit_chan (s : State) (j : Slot) (c : Chan) :
    (s.leaveTransit j).chan c = s.chan c := rfl
@[simp] theorem State.leaveTransit_bank (s : State) (j : Slot) (b : Bank) :
    (s.leaveTransit j).bank b = s.bank b := rfl
@[simp] theorem State.leaveTransit_drawer (s : State) (j : Slot) (d : DrawerIx) :
    (s.leaveTransit j).drawer d = s.drawer d := rfl
@[simp] theorem State.leaveTransit_port (s : State) (j : Slot) (p : Port) :
    (s.leaveTransit j).port p = s.port p := rfl
@[simp] theorem State.leaveTransit_item (s : State) (j : Slot) (x : Item) :
    (s.leaveTransit j).item x = s.item x := rfl

/-! ### post -/

@[simp] theorem State.post_rstLow (s : State) (q : Port) (e : Event) : (s.post q e).rstLow = s.rstLow := rfl
@[simp] theorem State.post_plates (s : State) (q : Port) (e : Event) : (s.post q e).plates = s.plates := rfl
@[simp] theorem State.post_types (s : State) (q : Port) (e : Event) : (s.post q e).types = s.types := rfl
@[simp] theorem State.post_pointer (s : State) (q : Port) (e : Event) : (s.post q e).pointer = s.pointer := rfl
@[simp] theorem State.post_exposureQ (s : State) (q : Port) (e : Event) : (s.post q e).exposureQ = s.exposureQ := rfl
@[simp] theorem State.post_frame (s : State) (q : Port) (e : Event) : (s.post q e).frame = s.frame := rfl
@[simp] theorem State.post_banks (s : State) (q : Port) (e : Event) : (s.post q e).banks = s.banks := rfl
@[simp] theorem State.post_chans (s : State) (q : Port) (e : Event) : (s.post q e).chans = s.chans := rfl
@[simp] theorem State.post_link (s : State) (q : Port) (e : Event) : (s.post q e).link = s.link := rfl
@[simp] theorem State.post_washQ (s : State) (q : Port) (e : Event) : (s.post q e).washQ = s.washQ := rfl
@[simp] theorem State.post_transit (s : State) (q : Port) (e : Event) : (s.post q e).transit = s.transit := rfl
@[simp] theorem State.post_solvent (s : State) (q : Port) (e : Event) : (s.post q e).solvent = s.solvent := rfl
@[simp] theorem State.post_dryerQ (s : State) (q : Port) (e : Event) : (s.post q e).dryerQ = s.dryerQ := rfl
@[simp] theorem State.post_drawers (s : State) (q : Port) (e : Event) : (s.post q e).drawers = s.drawers := rfl
@[simp] theorem State.post_finisherQ (s : State) (q : Port) (e : Event) : (s.post q e).finisherQ = s.finisherQ := rfl
@[simp] theorem State.post_finisher (s : State) (q : Port) (e : Event) : (s.post q e).finisher = s.finisher := rfl
@[simp] theorem State.post_config (s : State) (q : Port) (e : Event) : (s.post q e).config = s.config := rfl
@[simp] theorem State.post_strayCount (s : State) (q : Port) (e : Event) : (s.post q e).strayCount = s.strayCount :=
  rfl
@[simp] theorem State.post_pending (s : State) (q : Port) (e : Event) : (s.post q e).pending = s.pending := rfl
@[simp] theorem State.post_plate (s : State) (q : Port) (e : Event) (i : Slot) :
    (s.post q e).plate i = s.plate i := rfl
@[simp] theorem State.post_typeRec (s : State) (q : Port) (e : Event) (k : Fin 16) :
    (s.post q e).typeRec k = s.typeRec k := rfl
@[simp] theorem State.post_chan (s : State) (q : Port) (e : Event) (c : Chan) : (s.post q e).chan c = s.chan c := rfl
@[simp] theorem State.post_bank (s : State) (q : Port) (e : Event) (b : Bank) : (s.post q e).bank b = s.bank b := rfl
@[simp] theorem State.post_drawer (s : State) (q : Port) (e : Event) (d : DrawerIx) :
    (s.post q e).drawer d = s.drawer d := rfl
@[simp] theorem State.post_item (s : State) (q : Port) (e : Event) (x : Item) : (s.post q e).item x = s.item x := rfl

/-! ### postSolvent -/

@[simp] theorem State.postSolvent_rstLow (s : State) (n : Nat) : (s.postSolvent n).rstLow = s.rstLow := rfl
@[simp] theorem State.postSolvent_plates (s : State) (n : Nat) : (s.postSolvent n).plates = s.plates := rfl
@[simp] theorem State.postSolvent_types (s : State) (n : Nat) : (s.postSolvent n).types = s.types := rfl
@[simp] theorem State.postSolvent_pointer (s : State) (n : Nat) : (s.postSolvent n).pointer = s.pointer := rfl
@[simp] theorem State.postSolvent_exposureQ (s : State) (n : Nat) : (s.postSolvent n).exposureQ = s.exposureQ := rfl
@[simp] theorem State.postSolvent_frame (s : State) (n : Nat) : (s.postSolvent n).frame = s.frame := rfl
@[simp] theorem State.postSolvent_banks (s : State) (n : Nat) : (s.postSolvent n).banks = s.banks := rfl
@[simp] theorem State.postSolvent_chans (s : State) (n : Nat) : (s.postSolvent n).chans = s.chans := rfl
@[simp] theorem State.postSolvent_link (s : State) (n : Nat) : (s.postSolvent n).link = s.link := rfl
@[simp] theorem State.postSolvent_washQ (s : State) (n : Nat) : (s.postSolvent n).washQ = s.washQ := rfl
@[simp] theorem State.postSolvent_transit (s : State) (n : Nat) : (s.postSolvent n).transit = s.transit := rfl
@[simp] theorem State.postSolvent_solvent (s : State) (n : Nat) : (s.postSolvent n).solvent = s.solvent := rfl
@[simp] theorem State.postSolvent_dryerQ (s : State) (n : Nat) : (s.postSolvent n).dryerQ = s.dryerQ := rfl
@[simp] theorem State.postSolvent_drawers (s : State) (n : Nat) : (s.postSolvent n).drawers = s.drawers := rfl
@[simp] theorem State.postSolvent_finisherQ (s : State) (n : Nat) : (s.postSolvent n).finisherQ = s.finisherQ := rfl
@[simp] theorem State.postSolvent_finisher (s : State) (n : Nat) : (s.postSolvent n).finisher = s.finisher := rfl
@[simp] theorem State.postSolvent_config (s : State) (n : Nat) : (s.postSolvent n).config = s.config := rfl
@[simp] theorem State.postSolvent_strayCount (s : State) (n : Nat) : (s.postSolvent n).strayCount = s.strayCount :=
  rfl
@[simp] theorem State.postSolvent_pending (s : State) (n : Nat) : (s.postSolvent n).pending = s.pending := rfl
@[simp] theorem State.postSolvent_plate (s : State) (n : Nat) (i : Slot) :
    (s.postSolvent n).plate i = s.plate i := rfl
@[simp] theorem State.postSolvent_typeRec (s : State) (n : Nat) (k : Fin 16) :
    (s.postSolvent n).typeRec k = s.typeRec k := rfl
@[simp] theorem State.postSolvent_chan (s : State) (n : Nat) (c : Chan) : (s.postSolvent n).chan c = s.chan c := rfl
@[simp] theorem State.postSolvent_bank (s : State) (n : Nat) (b : Bank) : (s.postSolvent n).bank b = s.bank b := rfl
@[simp] theorem State.postSolvent_drawer (s : State) (n : Nat) (d : DrawerIx) :
    (s.postSolvent n).drawer d = s.drawer d := rfl
@[simp] theorem State.postSolvent_item (s : State) (n : Nat) (x : Item) : (s.postSolvent n).item x = s.item x := rfl

/-! ### endGrant -/

@[simp] theorem State.endGrant_rstLow (s : State) (q : Port) (r : Reply) : (s.endGrant q r).rstLow = s.rstLow := rfl
@[simp] theorem State.endGrant_plates (s : State) (q : Port) (r : Reply) : (s.endGrant q r).plates = s.plates := rfl
@[simp] theorem State.endGrant_types (s : State) (q : Port) (r : Reply) : (s.endGrant q r).types = s.types := rfl
@[simp] theorem State.endGrant_exposureQ (s : State) (q : Port) (r : Reply) : (s.endGrant q r).exposureQ = s.exposureQ :=
  rfl
@[simp] theorem State.endGrant_frame (s : State) (q : Port) (r : Reply) : (s.endGrant q r).frame = s.frame := rfl
@[simp] theorem State.endGrant_banks (s : State) (q : Port) (r : Reply) : (s.endGrant q r).banks = s.banks := rfl
@[simp] theorem State.endGrant_chans (s : State) (q : Port) (r : Reply) : (s.endGrant q r).chans = s.chans := rfl
@[simp] theorem State.endGrant_link (s : State) (q : Port) (r : Reply) : (s.endGrant q r).link = s.link := rfl
@[simp] theorem State.endGrant_washQ (s : State) (q : Port) (r : Reply) : (s.endGrant q r).washQ = s.washQ := rfl
@[simp] theorem State.endGrant_transit (s : State) (q : Port) (r : Reply) : (s.endGrant q r).transit = s.transit :=
  rfl
@[simp] theorem State.endGrant_solvent (s : State) (q : Port) (r : Reply) : (s.endGrant q r).solvent = s.solvent :=
  rfl
@[simp] theorem State.endGrant_dryerQ (s : State) (q : Port) (r : Reply) : (s.endGrant q r).dryerQ = s.dryerQ := rfl
@[simp] theorem State.endGrant_drawers (s : State) (q : Port) (r : Reply) : (s.endGrant q r).drawers = s.drawers :=
  rfl
@[simp] theorem State.endGrant_finisherQ (s : State) (q : Port) (r : Reply) : (s.endGrant q r).finisherQ = s.finisherQ :=
  rfl
@[simp] theorem State.endGrant_finisher (s : State) (q : Port) (r : Reply) : (s.endGrant q r).finisher = s.finisher :=
  rfl
@[simp] theorem State.endGrant_config (s : State) (q : Port) (r : Reply) : (s.endGrant q r).config = s.config := rfl
@[simp] theorem State.endGrant_strayCount (s : State) (q : Port) (r : Reply) : (s.endGrant q r).strayCount = s.strayCount :=
  rfl
@[simp] theorem State.endGrant_pending (s : State) (q : Port) (r : Reply) : (s.endGrant q r).pending = s.pending :=
  rfl
@[simp] theorem State.endGrant_plate (s : State) (q : Port) (r : Reply) (i : Slot) :
    (s.endGrant q r).plate i = s.plate i := rfl
@[simp] theorem State.endGrant_typeRec (s : State) (q : Port) (r : Reply) (k : Fin 16) :
    (s.endGrant q r).typeRec k = s.typeRec k := rfl
@[simp] theorem State.endGrant_chan (s : State) (q : Port) (r : Reply) (c : Chan) :
    (s.endGrant q r).chan c = s.chan c := rfl
@[simp] theorem State.endGrant_bank (s : State) (q : Port) (r : Reply) (b : Bank) :
    (s.endGrant q r).bank b = s.bank b := rfl
@[simp] theorem State.endGrant_drawer (s : State) (q : Port) (r : Reply) (d : DrawerIx) :
    (s.endGrant q r).drawer d = s.drawer d := rfl
@[simp] theorem State.endGrant_item (s : State) (q : Port) (r : Reply) (x : Item) :
    (s.endGrant q r).item x = s.item x := rfl

/-! ### setWaitList -/

@[simp] theorem State.setWaitList_rstLow (s : State) (l : WaitList) (q : List Slot) : (s.setWaitList l q).rstLow = s.rstLow :=
  by cases l <;> rfl
@[simp] theorem State.setWaitList_plates (s : State) (l : WaitList) (q : List Slot) : (s.setWaitList l q).plates = s.plates :=
  by cases l <;> rfl
@[simp] theorem State.setWaitList_types (s : State) (l : WaitList) (q : List Slot) : (s.setWaitList l q).types = s.types :=
  by cases l <;> rfl
@[simp] theorem State.setWaitList_pointer (s : State) (l : WaitList) (q : List Slot) : (s.setWaitList l q).pointer = s.pointer :=
  by cases l <;> rfl
@[simp] theorem State.setWaitList_frame (s : State) (l : WaitList) (q : List Slot) : (s.setWaitList l q).frame = s.frame :=
  by cases l <;> rfl
@[simp] theorem State.setWaitList_banks (s : State) (l : WaitList) (q : List Slot) : (s.setWaitList l q).banks = s.banks :=
  by cases l <;> rfl
@[simp] theorem State.setWaitList_chans (s : State) (l : WaitList) (q : List Slot) : (s.setWaitList l q).chans = s.chans :=
  by cases l <;> rfl
@[simp] theorem State.setWaitList_link (s : State) (l : WaitList) (q : List Slot) : (s.setWaitList l q).link = s.link :=
  by cases l <;> rfl
@[simp] theorem State.setWaitList_transit (s : State) (l : WaitList) (q : List Slot) : (s.setWaitList l q).transit = s.transit :=
  by cases l <;> rfl
@[simp] theorem State.setWaitList_solvent (s : State) (l : WaitList) (q : List Slot) : (s.setWaitList l q).solvent = s.solvent :=
  by cases l <;> rfl
@[simp] theorem State.setWaitList_drawers (s : State) (l : WaitList) (q : List Slot) : (s.setWaitList l q).drawers = s.drawers :=
  by cases l <;> rfl
@[simp] theorem State.setWaitList_finisher (s : State) (l : WaitList) (q : List Slot) : (s.setWaitList l q).finisher = s.finisher :=
  by cases l <;> rfl
@[simp] theorem State.setWaitList_ports (s : State) (l : WaitList) (q : List Slot) : (s.setWaitList l q).ports = s.ports :=
  by cases l <;> rfl
@[simp] theorem State.setWaitList_config (s : State) (l : WaitList) (q : List Slot) : (s.setWaitList l q).config = s.config :=
  by cases l <;> rfl
@[simp] theorem State.setWaitList_strayCount (s : State) (l : WaitList) (q : List Slot) : (s.setWaitList l q).strayCount = s.strayCount :=
  by cases l <;> rfl
@[simp] theorem State.setWaitList_pending (s : State) (l : WaitList) (q : List Slot) : (s.setWaitList l q).pending = s.pending :=
  by cases l <;> rfl
@[simp] theorem State.setWaitList_plate (s : State) (l : WaitList) (q : List Slot) (i : Slot) :
    (s.setWaitList l q).plate i = s.plate i := by cases l <;> rfl
@[simp] theorem State.setWaitList_typeRec (s : State) (l : WaitList) (q : List Slot) (k : Fin 16) :
    (s.setWaitList l q).typeRec k = s.typeRec k := by cases l <;> rfl
@[simp] theorem State.setWaitList_chan (s : State) (l : WaitList) (q : List Slot) (c : Chan) :
    (s.setWaitList l q).chan c = s.chan c := by cases l <;> rfl
@[simp] theorem State.setWaitList_bank (s : State) (l : WaitList) (q : List Slot) (b : Bank) :
    (s.setWaitList l q).bank b = s.bank b := by cases l <;> rfl
@[simp] theorem State.setWaitList_drawer (s : State) (l : WaitList) (q : List Slot) (d : DrawerIx) :
    (s.setWaitList l q).drawer d = s.drawer d := by cases l <;> rfl
@[simp] theorem State.setWaitList_port (s : State) (l : WaitList) (q : List Slot) (p : Port) :
    (s.setWaitList l q).port p = s.port p := by cases l <;> rfl
@[simp] theorem State.setWaitList_item (s : State) (l : WaitList) (q : List Slot) (x : Item) :
    (s.setWaitList l q).item x = s.item x := by cases l <;> rfl

/-! ### announce -/

@[simp] theorem State.announce_rstLow (s : State) (l : WaitList) (e : Bool) : (s.announce l e).rstLow = s.rstLow :=
  by cases e <;> rfl
@[simp] theorem State.announce_plates (s : State) (l : WaitList) (e : Bool) : (s.announce l e).plates = s.plates :=
  by cases e <;> rfl
@[simp] theorem State.announce_types (s : State) (l : WaitList) (e : Bool) : (s.announce l e).types = s.types :=
  by cases e <;> rfl
@[simp] theorem State.announce_pointer (s : State) (l : WaitList) (e : Bool) : (s.announce l e).pointer = s.pointer :=
  by cases e <;> rfl
@[simp] theorem State.announce_exposureQ (s : State) (l : WaitList) (e : Bool) : (s.announce l e).exposureQ = s.exposureQ :=
  by cases e <;> rfl
@[simp] theorem State.announce_frame (s : State) (l : WaitList) (e : Bool) : (s.announce l e).frame = s.frame :=
  by cases e <;> rfl
@[simp] theorem State.announce_banks (s : State) (l : WaitList) (e : Bool) : (s.announce l e).banks = s.banks :=
  by cases e <;> rfl
@[simp] theorem State.announce_chans (s : State) (l : WaitList) (e : Bool) : (s.announce l e).chans = s.chans :=
  by cases e <;> rfl
@[simp] theorem State.announce_link (s : State) (l : WaitList) (e : Bool) : (s.announce l e).link = s.link :=
  by cases e <;> rfl
@[simp] theorem State.announce_washQ (s : State) (l : WaitList) (e : Bool) : (s.announce l e).washQ = s.washQ :=
  by cases e <;> rfl
@[simp] theorem State.announce_transit (s : State) (l : WaitList) (e : Bool) : (s.announce l e).transit = s.transit :=
  by cases e <;> rfl
@[simp] theorem State.announce_solvent (s : State) (l : WaitList) (e : Bool) : (s.announce l e).solvent = s.solvent :=
  by cases e <;> rfl
@[simp] theorem State.announce_dryerQ (s : State) (l : WaitList) (e : Bool) : (s.announce l e).dryerQ = s.dryerQ :=
  by cases e <;> rfl
@[simp] theorem State.announce_drawers (s : State) (l : WaitList) (e : Bool) : (s.announce l e).drawers = s.drawers :=
  by cases e <;> rfl
@[simp] theorem State.announce_finisherQ (s : State) (l : WaitList) (e : Bool) : (s.announce l e).finisherQ = s.finisherQ :=
  by cases e <;> rfl
@[simp] theorem State.announce_finisher (s : State) (l : WaitList) (e : Bool) : (s.announce l e).finisher = s.finisher :=
  by cases e <;> rfl
@[simp] theorem State.announce_config (s : State) (l : WaitList) (e : Bool) : (s.announce l e).config = s.config :=
  by cases e <;> rfl
@[simp] theorem State.announce_strayCount (s : State) (l : WaitList) (e : Bool) : (s.announce l e).strayCount = s.strayCount :=
  by cases e <;> rfl
@[simp] theorem State.announce_pending (s : State) (l : WaitList) (e : Bool) : (s.announce l e).pending = s.pending :=
  by cases e <;> rfl
@[simp] theorem State.announce_plate (s : State) (l : WaitList) (e : Bool) (i : Slot) :
    (s.announce l e).plate i = s.plate i := by cases e <;> rfl
@[simp] theorem State.announce_typeRec (s : State) (l : WaitList) (e : Bool) (k : Fin 16) :
    (s.announce l e).typeRec k = s.typeRec k := by cases e <;> rfl
@[simp] theorem State.announce_chan (s : State) (l : WaitList) (e : Bool) (c : Chan) :
    (s.announce l e).chan c = s.chan c := by cases e <;> rfl
@[simp] theorem State.announce_bank (s : State) (l : WaitList) (e : Bool) (b : Bank) :
    (s.announce l e).bank b = s.bank b := by cases e <;> rfl
@[simp] theorem State.announce_drawer (s : State) (l : WaitList) (e : Bool) (d : DrawerIx) :
    (s.announce l e).drawer d = s.drawer d := by cases e <;> rfl
@[simp] theorem State.announce_item (s : State) (l : WaitList) (e : Bool) (x : Item) :
    (s.announce l e).item x = s.item x := by cases e <;> rfl

/-! ### Reading after a write -/

theorem Chan.index_injective : Function.Injective Chan.index := by
  intro c d h; revert h; cases c <;> cases d <;> decide

theorem Bank.index_injective : Function.Injective Bank.index := by
  intro c d h; revert h; cases c <;> cases d <;> decide

theorem Port.index_injective : Function.Injective Port.index := by
  intro c d h; revert h; cases c <;> cases d <;> decide

theorem Item.index_injective : Function.Injective Item.index := by
  intro c d h; revert h; cases c <;> cases d <;> decide

@[simp] theorem State.plate_modPlate_self (s : State) (i : Slot) (f : Plate → Plate) : (s.modPlate i f).plate i = f (s.plate i) := by
  simp [State.plate, State.modPlate]

theorem State.plate_modPlate_ne (s : State) {i j : Slot} (f : Plate → Plate) (h : j ≠ i) :
    (s.modPlate i f).plate j = s.plate j := by
  simp only [State.plate, State.modPlate]
  exact Vector.getElem_set_ne _ _ (fun e => h (Fin.ext e.symm))

@[simp] theorem State.typeRec_setType_self (s : State) (k : Fin 16) (r : TypeRec) : (s.setType k r).typeRec k = r := by
  simp [State.typeRec, State.setType]

theorem State.typeRec_setType_ne (s : State) {i j : Fin 16} (r : TypeRec) (h : j ≠ i) :
    (s.setType i r).typeRec j = s.typeRec j := by
  simp only [State.typeRec, State.setType]
  exact Vector.getElem_set_ne _ _ (fun e => h (Fin.ext e.symm))

@[simp] theorem State.drawer_modDrawer_self (s : State) (d : DrawerIx) (f : Drawer → Drawer) : (s.modDrawer d f).drawer d = f (s.drawer d) := by
  simp [State.drawer, State.modDrawer]

theorem State.drawer_modDrawer_ne (s : State) {i j : DrawerIx} (f : Drawer → Drawer) (h : j ≠ i) :
    (s.modDrawer i f).drawer j = s.drawer j := by
  simp only [State.drawer, State.modDrawer]
  exact Vector.getElem_set_ne _ _ (fun e => h (Fin.ext e.symm))

@[simp] theorem State.chan_modChan_self (s : State) (c : Chan) (f : Channel → Channel) : (s.modChan c f).chan c = f (s.chan c) := by
  simp [State.chan, State.modChan]

theorem State.chan_modChan_ne (s : State) {i j : Chan} (f : Channel → Channel) (h : j ≠ i) :
    (s.modChan i f).chan j = s.chan j := by
  simp only [State.chan, State.modChan]
  exact Vector.getElem_set_ne _ _ (fun e => h (Chan.index_injective (Fin.ext e.symm)))

@[simp] theorem State.bank_modBank_self (s : State) (c : Bank) (f : BankRec → BankRec) : (s.modBank c f).bank c = f (s.bank c) := by
  simp [State.bank, State.modBank]

theorem State.bank_modBank_ne (s : State) {i j : Bank} (f : BankRec → BankRec) (h : j ≠ i) :
    (s.modBank i f).bank j = s.bank j := by
  simp only [State.bank, State.modBank]
  exact Vector.getElem_set_ne _ _ (fun e => h (Bank.index_injective (Fin.ext e.symm)))

@[simp] theorem State.port_modPort_self (s : State) (c : Port) (f : PortRec → PortRec) : (s.modPort c f).port c = f (s.port c) := by
  simp [State.port, State.modPort]

theorem State.port_modPort_ne (s : State) {i j : Port} (f : PortRec → PortRec) (h : j ≠ i) :
    (s.modPort i f).port j = s.port j := by
  simp only [State.port, State.modPort]
  exact Vector.getElem_set_ne _ _ (fun e => h (Port.index_injective (Fin.ext e.symm)))

@[simp] theorem State.item_setItem_self (s : State) (c : Item) (v : Nat) : (s.setItem c v).item c = v := by
  simp [State.item, State.setItem]

theorem State.item_setItem_ne (s : State) {i j : Item} (v : Nat) (h : j ≠ i) :
    (s.setItem i v).item j = s.item j := by
  simp only [State.item, State.setItem]
  exact Vector.getElem_set_ne _ _ (fun e => h (Item.index_injective (Fin.ext e.symm)))

theorem State.waitList_setWaitList_self (s : State) (l : WaitList) (q : List Slot) : (s.setWaitList l q).waitList l = q := by
  cases l <;> rfl

theorem State.waitList_setWaitList_ne (s : State) {l m : WaitList} (q : List Slot) (h : m ≠ l) :
    (s.setWaitList l q).waitList m = s.waitList m := by
  cases l <;> cases m <;> first | rfl | exact absurd rfl h

end Sys2Proof.Machine
end

