-- ==== Sys2Proof/Laws/Ops.lean ====
section
/-! SUPPORT. What each shared operation can do, said once: the grant of a command and the arrival of its last byte, the
posting of an event, the lists, and the operands. A proof cites these in place of unfolding the operation. -/

namespace Sys2Proof.Machine

/-! ### Grants -/

/-- What a grant answers: the effect's state with the effect's reply on its way out. -/
def State.granted (r : State × Reply) (p : Port) : State := r.1.replied p r.2.result.code r.2.data

theorem State.endGrant_eq_replied (s : State) (p : Port) (r : Reply) : s.endGrant p r = s.replied p r.result.code r.data :=
  rfl

theorem grant_of_grants {s : State} {p : Port} {bytes : List Byte} (effect : State → State × Reply)
    (h : s.grants p bytes = true) : grant p bytes effect s = State.granted (effect s) p := by
  simp only [grant, h, if_true]; rfl

theorem grant_of_not_grants {s : State} {p : Port} {bytes : List Byte} (effect : State → State × Reply)
    (h : s.grants p bytes = false) : grant p bytes effect s = s := by
  simp [grant, h]

/-- A grant leaves the state as it is, or answers the effect's state with its reply. -/
theorem grant_cases (p : Port) (bytes : List Byte) (effect : State → State × Reply) (s : State) :
    (s.grants p bytes = true ∧ grant p bytes effect s = State.granted (effect s) p)
      ∨ (s.grants p bytes = false ∧ grant p bytes effect s = s) := by
  cases h : s.grants p bytes
  · exact .inr ⟨rfl, grant_of_not_grants effect h⟩
  · exact .inl ⟨rfl, grant_of_grants effect h⟩

theorem State.grants_iff (s : State) (p : Port) (bytes : List Byte) :
    s.grants p bytes = true ↔
      s.rstLow = false ∧ s.arbiterChoice = some p ∧ (s.port p).frame = .waiting bytes := by
  simp [State.grants, and_assoc]

@[simp] theorem State.granted_refuse (r : Result) (s : State) (p : Port) :
    State.granted (refuse r s) p = s.replied p r.code [] := rfl

@[simp] theorem State.granted_mk (t : State) (r : Result) (data : List Byte) (p : Port) :
    State.granted (t, ⟨r, data⟩) p = t.replied p r.code data := rfl

@[simp] theorem State.granted_just (t : State) (r : Result) (p : Port) :
    State.granted (t, Reply.just r) p = t.replied p r.code [] := rfl

theorem exec_readPlate {s : State} (p : Port) (slot : Byte) (h : Granted (.readPlate p slot) s) :
    exec (.readPlate p slot) s = .next (State.granted (viaSlot slot readPlateEffect s) p) :=
  congrArg _ (grant_of_grants _ (by simpa [Granted, commandPort] using h))

theorem exec_readLine {s : State} (p : Port) (h : Granted (.readLine p) s) :
    exec (.readLine p) s = .next (State.granted (readLineEffect s) p) :=
  congrArg _ (grant_of_grants _ (by simpa [Granted, commandPort] using h))

theorem exec_writeType {s : State} (ix : Byte) (image : TypeImage) (h : Granted (.writeType ix image) s) :
    exec (.writeType ix image) s = .next (State.granted (writeTypeEffect ix image s) .P) :=
  congrArg _ (grant_of_grants _ (by simpa [Granted, commandPort] using h))

theorem exec_readType {s : State} (ix : Byte) (h : Granted (.readType ix) s) :
    exec (.readType ix) s = .next (State.granted (readTypeEffect ix s) .P) :=
  congrArg _ (grant_of_grants _ (by simpa [Granted, commandPort] using h))

theorem exec_stageLot {s : State} (lot : LotImage) (h : Granted (.stageLot lot) s) :
    exec (.stageLot lot) s = .next (State.granted (stageLotEffect lot s) .P) :=
  congrArg _ (grant_of_grants _ (by simpa [Granted, commandPort] using h))

theorem exec_hold {s : State} (slot : Byte) (h : Granted (.hold slot) s) :
    exec (.hold slot) s = .next (State.granted (viaSlot slot holdPlate s) .P) :=
  congrArg _ (grant_of_grants _ (by simpa [Granted, commandPort] using h))

theorem exec_release {s : State} (slot : Byte) (h : Granted (.release slot) s) :
    exec (.release slot) s = .next (State.granted (viaSlot slot releasePlate s) .P) :=
  congrArg _ (grant_of_grants _ (by simpa [Granted, commandPort] using h))

theorem exec_scrap {s : State} (slot : Byte) (h : Granted (.scrap slot) s) :
    exec (.scrap slot) s = .next (State.granted (viaSlot slot scrapPlate s) .P) :=
  congrArg _ (grant_of_grants _ (by simpa [Granted, commandPort] using h))

theorem exec_purge {s : State} (slot : Byte) (h : Granted (.purge slot) s) :
    exec (.purge slot) s = .next (State.granted (viaSlot slot purgePlate s) .P) :=
  congrArg _ (grant_of_grants _ (by simpa [Granted, commandPort] using h))

theorem exec_setConfig {s : State} (code : Byte) (value : Word) (h : Granted (.setConfig code value) s) :
    exec (.setConfig code value) s = .next (State.granted (setConfigEffect code value s) .P) :=
  congrArg _ (grant_of_grants _ (by simpa [Granted, commandPort] using h))

theorem exec_readConfig {s : State} (code : Byte) (h : Granted (.readConfig code) s) :
    exec (.readConfig code) s = .next (State.granted (readConfigEffect code s) .P) :=
  congrArg _ (grant_of_grants _ (by simpa [Granted, commandPort] using h))

theorem exec_setLoading {s : State} (loading : Word) (h : Granted (.setLoading loading) s) :
    exec (.setLoading loading) s = .next (State.granted (setLoadingEffect loading s) .P) :=
  congrArg _ (grant_of_grants _ (by simpa [Granted, commandPort] using h))

theorem exec_loadReq {s : State} (mode : Byte) (h : Granted (.loadReq mode) s) :
    exec (.loadReq mode) s = .next (State.granted (loadReqEffect mode s) .E) :=
  congrArg _ (grant_of_grants _ (by simpa [Granted, commandPort] using h))

theorem exec_bankOn {s : State} (p : Port) (code : Byte) (h : Granted (.bankOn p code) s) :
    exec (.bankOn p code) s = .next (State.granted (viaBank p code State.bankOn s) p) :=
  congrArg _ (grant_of_grants _ (by simpa [Granted, commandPort] using h))

theorem exec_bankOff {s : State} (p : Port) (code : Byte) (h : Granted (.bankOff p code) s) :
    exec (.bankOff p code) s = .next (State.granted (viaBank p code State.bankOff s) p) :=
  congrArg _ (grant_of_grants _ (by simpa [Granted, commandPort] using h))

theorem exec_startBack {s : State} (h : Granted .startBack s) :
    exec .startBack s = .next (State.granted (startBackEffect s) .E) :=
  congrArg _ (grant_of_grants _ (by simpa [Granted, commandPort] using h))

theorem exec_startFace {s : State} (h : Granted .startFace s) :
    exec .startFace s = .next (State.granted (startFaceEffect s) .E) :=
  congrArg _ (grant_of_grants _ (by simpa [Granted, commandPort] using h))

theorem exec_unload {s : State} (h : Granted .unload s) :
    exec .unload s = .next (State.granted (unloadEffect s) .E) :=
  congrArg _ (grant_of_grants _ (by simpa [Granted, commandPort] using h))

theorem exec_frameAbort {s : State} (h : Granted .frameAbort s) :
    exec .frameAbort s = .next (State.granted (frameAbortEffect s) .E) :=
  congrArg _ (grant_of_grants _ (by simpa [Granted, commandPort] using h))

theorem exec_washClaim {s : State} (code : Byte) (h : Granted (.washClaim code) s) :
    exec (.washClaim code) s = .next (State.granted (washClaimEffect code s) .W) :=
  congrArg _ (grant_of_grants _ (by simpa [Granted, commandPort] using h))

theorem exec_washDone {s : State} (slot : Byte) (h : Granted (.washDone slot) s) :
    exec (.washDone slot) s = .next (State.granted (viaSlot slot washDonePlate s) .W) :=
  congrArg _ (grant_of_grants _ (by simpa [Granted, commandPort] using h))

theorem exec_washFault {s : State} (slot : Byte) (h : Granted (.washFault slot) s) :
    exec (.washFault slot) s = .next (State.granted (viaSlot slot washFaultPlate s) .W) :=
  congrArg _ (grant_of_grants _ (by simpa [Granted, commandPort] using h))

theorem exec_replenish {s : State} (litres : Word) (h : Granted (.replenish litres) s) :
    exec (.replenish litres) s = .next (State.granted (replenishEffect litres s) .W) :=
  congrArg _ (grant_of_grants _ (by simpa [Granted, commandPort] using h))

theorem exec_solventChange {s : State} (h : Granted .solventChange s) :
    exec .solventChange s = .next (State.granted (solventChangeEffect s) .W) :=
  congrArg _ (grant_of_grants _ (by simpa [Granted, commandPort] using h))

theorem exec_drawerLoad {s : State} (drawer code : Byte) (h : Granted (.drawerLoad drawer code) s) :
    exec (.drawerLoad drawer code) s = .next (State.granted (viaDrawer drawer (drawerLoadAt code) s) .D) :=
  congrArg _ (grant_of_grants _ (by simpa [Granted, commandPort] using h))

theorem exec_drawerOpen {s : State} (drawer : Byte) (h : Granted (.drawerOpen drawer) s) :
    exec (.drawerOpen drawer) s = .next (State.granted (viaDrawer drawer drawerOpenAt s) .D) :=
  congrArg _ (grant_of_grants _ (by simpa [Granted, commandPort] using h))

theorem exec_drawerClose {s : State} (drawer : Byte) (h : Granted (.drawerClose drawer) s) :
    exec (.drawerClose drawer) s = .next (State.granted (viaDrawer drawer drawerCloseAt s) .D) :=
  congrArg _ (grant_of_grants _ (by simpa [Granted, commandPort] using h))

theorem exec_drawerUnload {s : State} (drawer : Byte) (h : Granted (.drawerUnload drawer) s) :
    exec (.drawerUnload drawer) s = .next (State.granted (viaDrawer drawer drawerUnloadAt s) .D) :=
  congrArg _ (grant_of_grants _ (by simpa [Granted, commandPort] using h))

theorem exec_finishLoad {s : State} (code : Byte) (h : Granted (.finishLoad code) s) :
    exec (.finishLoad code) s = .next (State.granted (finishLoadEffect code s) .D) :=
  congrArg _ (grant_of_grants _ (by simpa [Granted, commandPort] using h))

theorem exec_finishStart {s : State} (h : Granted .finishStart s) :
    exec .finishStart s = .next (State.granted (finishStartEffect s) .D) :=
  congrArg _ (grant_of_grants _ (by simpa [Granted, commandPort] using h))

theorem exec_finishAbort {s : State} (h : Granted .finishAbort s) :
    exec .finishAbort s = .next (State.granted (finishAbortEffect s) .D) :=
  congrArg _ (grant_of_grants _ (by simpa [Granted, commandPort] using h))

theorem exec_finishUnload {s : State} (h : Granted .finishUnload s) :
    exec .finishUnload s = .next (State.granted (finishUnloadEffect s) .D) :=
  congrArg _ (grant_of_grants _ (by simpa [Granted, commandPort] using h))

/-! ### The clocks of a byte, and last bytes -/

theorem lineClocks_eq_eightClocks (sent out : Byte) : lineClocks sent out = eightClocks sent out := by
  simp [lineClocks, eightClocks, bitsMsbFirst, BitVec.getMsbD_eq_getLsbD, List.range_succ]

@[simp] theorem PortRec.clock_eq_clocked (q : PortRec) (sent out : Byte) : q.clock sent out = q.clocked sent out := by
  simp [PortRec.clock, PortRec.clocked, lineClocks_eq_eightClocks]

/-- The byte that eight clocks bring in is the byte that was sent. -/
@[simp] theorem receivedByte_lineClocks (sent out : Byte) : receivedByte (lineClocks sent out) = sent := by
  refine BitVec.eq_of_getLsbD_eq fun i hi => ?_
  have : i = 0 ∨ i = 1 ∨ i = 2 ∨ i = 3 ∨ i = 4 ∨ i = 5 ∨ i = 6 ∨ i = 7 := by omega
  rcases this with rfl | rfl | rfl | rfl | rfl | rfl | rfl | rfl <;>
    simp [receivedByte, lineClocks, bitsMsbFirst, List.range_succ, shiftIn, BitVec.getMsbD_eq_getLsbD]

@[simp] theorem PortRec.clocked_frame (q : PortRec) (sent out : Byte) : (q.clocked sent out).frame = q.frame := rfl
@[simp] theorem PortRec.clocked_attn (q : PortRec) (sent out : Byte) : (q.clocked sent out).attn = q.attn := rfl
@[simp] theorem PortRec.clocked_selLow (q : PortRec) (sent out : Byte) : (q.clocked sent out).selLow = q.selLow := rfl
@[simp] theorem PortRec.clocked_lastError (q : PortRec) (sent out : Byte) :
    (q.clocked sent out).lastError = q.lastError := rfl
@[simp] theorem PortRec.clocked_dataOut (q : PortRec) (sent out : Byte) :
    (q.clocked sent out).dataOut = some out := rfl
@[simp] theorem PortRec.clocked_clocks (q : PortRec) (sent out : Byte) :
    (q.clocked sent out).clocks = eightClocks sent out := rfl

theorem lastByte_of_completes {s : State} {p : Port} {bytes : List Byte} (f : PortRec → PortRec)
    (h : s.completes p bytes = true) : lastByte p bytes f s = s.modPort p fun q => f (q.clocked (bytes.getLastD 0) 0xFF) := by
  simp [lastByte, h]

theorem lastByte_of_not_completes {s : State} {p : Port} {bytes : List Byte} (f : PortRec → PortRec)
    (h : s.completes p bytes = false) : lastByte p bytes f s = s := by
  simp [lastByte, h]

theorem State.completes_iff (s : State) (p : Port) (bytes : List Byte) :
    s.completes p bytes = true ↔ s.rstLow = false ∧ (s.port p).selLow = true ∧ bytes ≠ []
      ∧ (s.port p).frame = .receiving bytes.dropLast := by
  simp [State.completes, and_assoc]

/-! ### Operands -/

theorem namedSlot_of_lt {b : Byte} {i : Slot} (h : b.toNat = i.val) : namedSlot b = some i := by
  simp [namedSlot, h]

theorem namedSlot_of_gt {b : Byte} (h : 63 < b.toNat) : namedSlot b = none := by
  simp [namedSlot, Nat.not_lt.mpr (Nat.succ_le_of_lt h)]

theorem viaSlot_of_lt {b : Byte} {i : Slot} (act : State → Slot → State × Reply) (s : State) (h : b.toNat = i.val) :
    viaSlot b act s = act s i := by
  simp [viaSlot, namedSlot_of_lt h]

theorem viaSlot_of_gt {b : Byte} (act : State → Slot → State × Reply) (s : State) (h : 63 < b.toNat) :
    viaSlot b act s = refuse .badSlot s := by
  simp [viaSlot, namedSlot_of_gt h]

theorem slotCode_of_lt {b : Byte} {i : Slot} (h : b.toNat = i.val) : slotCode b = .named i := by
  simp [slotCode, namedSlot_of_lt h]

theorem slotCode_next : slotCode 0xFF = .next := by decide

theorem slotCode_of_gt {b : Byte} (h : 63 < b.toNat) (n : b ≠ 0xFF) : slotCode b = .bad := by
  simp only [slotCode, namedSlot_of_gt h, if_neg n]

theorem namedDrawer_of_lt {b : Byte} {d : DrawerIx} (h : b.toNat = d.val) : namedDrawer b = some d := by
  simp [namedDrawer, h]

theorem namedDrawer_of_gt {b : Byte} (h : 3 < b.toNat) : namedDrawer b = none := by
  simp [namedDrawer, Nat.not_lt.mpr (Nat.succ_le_of_lt h)]

theorem viaDrawer_of_lt {b : Byte} {d : DrawerIx} (act : State → DrawerIx → State × Reply) (s : State)
    (h : b.toNat = d.val) : viaDrawer b act s = act s d := by
  simp [viaDrawer, namedDrawer_of_lt h]

theorem viaDrawer_of_gt {b : Byte} (act : State → DrawerIx → State × Reply) (s : State) (h : 3 < b.toNat) :
    viaDrawer b act s = refuse .badParam s := by
  simp [viaDrawer, namedDrawer_of_gt h]

theorem namedType_of_lt {b : Byte} {t : Fin 16} (h : b.toNat = t.val) : namedType b = some t := by
  simp [namedType, h]

theorem namedType_of_gt {b : Byte} (h : 15 < b.toNat) : namedType b = none := by
  simp [namedType, Nat.not_lt.mpr (Nat.succ_le_of_lt h)]

theorem namedBank_of_index {b : Byte} {k : Bank} (h : b.toNat = k.index.val) : namedBank b = some k := by
  cases k <;> simp_all [namedBank, Bank.index]

theorem namedBank_of_gt {b : Byte} (h : 3 < b.toNat) : namedBank b = none := by
  unfold namedBank; split <;> first | rfl | omega

theorem namedItem_of_index {b : Byte} {x : Item} (h : b.toNat = x.index.val) : namedItem b = some x := by
  cases x <;> simp_all [namedItem, Item.index]

theorem namedItem_of_gt {b : Byte} (h : 15 < b.toNat) : namedItem b = none := by
  unfold namedItem; split <;> first | rfl | omega

/-! ### Lists -/

/-- A plate that stands once in a list leaves it, and the others close up. -/
theorem filter_ne_of_split {i : Slot} {before after : List Slot} (hb : i ∉ before) (ha : i ∉ after) :
    (before ++ i :: after).filter (fun j => j != i) = before ++ after := by
  have keep : ∀ l : List Slot, i ∉ l → l.filter (fun j => j != i) = l := fun l h =>
    List.filter_eq_self.mpr fun j hj => by simpa using fun e : j = i => h (e ▸ hj)
  simp [keep before hb, keep after ha]

theorem State.leaveList_of_split {s : State} {l : WaitList} {i : Slot} {before after : List Slot}
    (h : s.waitList l = before ++ i :: after) (hb : i ∉ before) (ha : i ∉ after) :
    s.leaveList l i = s.setWaitList l (before ++ after) := by
  simp only [State.leaveList, h, filter_ne_of_split hb ha]

/-- The rush part and the normal part of an exposure queue are its two classes. -/
theorem State.classes.parts {s : State} {r n : List Slot} (h : s.classes r n) :
    s.rushPart s.exposureQ = r ∧ s.normalPart s.exposureQ = n := by
  have hr : ∀ a ∈ r, (fun j => (s.plate j).rush) a = true := h.rush
  have hn : n.takeWhile (fun j => (s.plate j).rush) = [] ∧ n.dropWhile (fun j => (s.plate j).rush) = n := by
    cases n with
    | nil => exact ⟨rfl, rfl⟩
    | cons a l => simp [h.normal a (List.mem_cons_self ..)]
  simp only [State.rushPart, State.normalPart, h.all]
  rw [List.takeWhile_append_of_pos hr, List.dropWhile_append_of_pos hr, hn.1, hn.2]
  simp

/-- A change of a plate's record that keeps rush leaves every plate in its class. -/
theorem State.rush_modPlate (s : State) (i j : Slot) {f : Plate → Plate} (hf : ∀ p, (f p).rush = p.rush) :
    ((s.modPlate i f).plate j).rush = (s.plate j).rush := by
  by_cases h : j = i
  · subst h; simp [hf]
  · rw [State.plate_modPlate_ne _ _ h]

theorem State.rushPart_modPlate (s : State) (i : Slot) {f : Plate → Plate} (hf : ∀ p, (f p).rush = p.rush)
    (q : List Slot) : (s.modPlate i f).rushPart q = s.rushPart q := by
  simp only [State.rushPart, State.rush_modPlate s i _ hf]

theorem State.normalPart_modPlate (s : State) (i : Slot) {f : Plate → Plate} (hf : ∀ p, (f p).rush = p.rush)
    (q : List Slot) : (s.modPlate i f).normalPart q = s.normalPart q := by
  simp only [State.normalPart, State.rush_modPlate s i _ hf]

theorem State.atClassTail_modPlate (s : State) (i j : Slot) {f : Plate → Plate} (hf : ∀ p, (f p).rush = p.rush)
    (q : List Slot) : (s.modPlate i f).atClassTail q j = s.atClassTail q j := by
  simp only [State.atClassTail, State.rush_modPlate s i _ hf, State.rushPart_modPlate s i hf,
    State.normalPart_modPlate s i hf]

theorem State.atClassHead_modPlate (s : State) (i j : Slot) {f : Plate → Plate} (hf : ∀ p, (f p).rush = p.rush)
    (q : List Slot) : (s.modPlate i f).atClassHead q j = s.atClassHead q j := by
  simp only [State.atClassHead, State.rush_modPlate s i _ hf, State.rushPart_modPlate s i hf,
    State.normalPart_modPlate s i hf]

theorem State.classes.atClassTail {s : State} {r n : List Slot} (h : s.classes r n) (i : Slot) :
    s.atClassTail s.exposureQ i = if (s.plate i).rush then r ++ i :: n else r ++ n ++ [i] := by
  rw [State.atClassTail, h.parts.1, h.parts.2, h.all]

theorem State.classes.atClassHead {s : State} {r n : List Slot} (h : s.classes r n) (i : Slot) :
    s.atClassHead s.exposureQ i = if (s.plate i).rush then i :: (r ++ n) else r ++ i :: n := by
  rw [State.atClassHead, h.parts.1, h.parts.2, h.all]

theorem State.fillList_eq (s : State) (l : WaitList) (q : List Slot) :
    s.fillList l q = (s.setWaitList l q).tellReady (s.waitList l).isEmpty l.port l.param := rfl

theorem placeBehind_mem {ahead i : Slot} {before after : List Slot} (h : ahead ∉ before) :
    placeBehind ahead i (before ++ ahead :: after) = before ++ ahead :: i :: after := by
  induction before with
  | nil => simp [placeBehind]
  | cons a l ih =>
    have hn : ahead ≠ a ∧ ahead ∉ l := by simpa [not_or] using h
    simp [placeBehind, Ne.symm hn.1, ih hn.2]

/-! ### Events -/

theorem State.holdAtStep_eq (s : State) (i : Slot) (reason : HoldReason) (from_ : HeldFrom) (station : Port) :
    s.holdAtStep i reason from_ station = (s.modPlate i fun p => p.heldFor reason from_).tellHeld i reason.code station :=
  rfl

/-- An arrival merges, is placed, replaces an entry of a lower class, or is dropped. -/
theorem Attention.arrive_cases (a : Attention) (e : Event) :
    ((∃ x ∈ a.queue, x.key = e.key)
      ∧ a.arrive e = { a with queue := a.queue.map fun x => if x.key == e.key then x.merge e else x })
    ∨ ((∀ x ∈ a.queue, x.key ≠ e.key) ∧ a.queue.length < 16
      ∧ a.arrive e = { a with queue := placeEntry e.entry a.queue })
    ∨ ((∀ x ∈ a.queue, x.key ≠ e.key) ∧ 16 ≤ a.queue.length ∧ ∃ r, a.lowestUnfrozen = some r ∧ e.cls.rank < r
      ∧ a.arrive e = { a with
          queue := placeEntry e.entry (eraseLast (fun x => a.unfrozen x && x.cls.rank == r) a.queue)
          overrun := true })
    ∨ ((∀ x ∈ a.queue, x.key ≠ e.key) ∧ 16 ≤ a.queue.length ∧ (∀ r ∈ a.lowestUnfrozen, r ≤ e.cls.rank)
      ∧ a.arrive e = { a with overrun := true }) := by
  by_cases hm : a.queue.any (fun x => x.key == e.key) = true
  · exact .inl ⟨by simpa using hm, by simp [Attention.arrive, hm]⟩
  · have hk : ∀ x ∈ a.queue, x.key ≠ e.key := by simpa using hm
    by_cases hl : a.queue.length < 16
    · exact .inr (.inl ⟨hk, hl, by simp [Attention.arrive, hm, queueCapacity, hl]⟩)
    · refine .inr (.inr ?_)
      cases hr : a.lowestUnfrozen with
      | none => exact .inr ⟨hk, Nat.le_of_not_lt hl, by simp, by simp [Attention.arrive, hm, queueCapacity, hl, hr]⟩
      | some r =>
        by_cases hlt : e.cls.rank < r
        · exact .inl ⟨hk, Nat.le_of_not_lt hl, r, rfl, hlt, by simp [Attention.arrive, hm, queueCapacity, hl, hr, hlt]⟩
        · exact .inr ⟨hk, Nat.le_of_not_lt hl, by simpa using Nat.le_of_not_lt hlt,
            by simp [Attention.arrive, hm, queueCapacity, hl, hr, hlt]⟩

/-- Placing an entry loses none and adds just that one. -/
theorem mem_placeEntry (x y : Entry) (q : List Entry) : y ∈ placeEntry x q ↔ y = x ∨ y ∈ q := by
  rw [placeEntry, List.mem_append, List.mem_cons]
  constructor
  · rintro (h | rfl | h)
    · exact .inr (List.takeWhile_sublist _ |>.subset h)
    · exact .inl rfl
    · exact .inr (List.dropWhile_sublist _ |>.subset h)
  · rintro (rfl | h)
    · exact .inr (.inl rfl)
    · rw [← List.takeWhile_append_dropWhile (p := fun y => decide (y.cls.rank ≤ x.cls.rank)) (l := q),
        List.mem_append] at h
      rcases h with h | h
      · exact .inl h
      · exact .inr (.inr h)

theorem length_placeEntry (x : Entry) (q : List Entry) : (placeEntry x q).length = q.length + 1 := by
  have h := congrArg List.length
    (List.takeWhile_append_dropWhile (p := fun y : Entry => decide (y.cls.rank ≤ x.cls.rank)) (l := q))
  simp only [placeEntry, List.length_append, List.length_cons] at *
  omega

end Sys2Proof.Machine
end

