-- ==== Sys2Proof/Tests/Slice0.lean ====
section
/-! SUPPORT. Tests: the checks of WellFormed, the frames of the commands, the manual's worked examples (each test names the
section its figures come from), and for every obligation with hypotheses a state and operands that meet them, clause by
clause. -/

namespace Sys2Proof.Tests

open Sys2Proof Sys2Proof.Machine

set_option maxRecDepth 8000

/-! ### Small states -/

/-- A port with SEL low and a frame in progress. -/
def inFrame (s : State) (p : Port) (f : Frame) : State := s.modPort p fun q => { q with selLow := true, frame := f }

/-- A command waits at the arbiter. -/
def asked (c : Instr) (s : State) : State :=
  match commandPort c with
  | some p => inFrame s p (.waiting (frameBytes c))
  | none => s

/-- All the bytes of a frame but the last have arrived. -/
def nearly (c : Instr) (s : State) : State :=
  match commandPort c with
  | some p => inFrame s p (.receiving (frameBytes c).dropLast)
  | none => s

/-- The state after an event. -/
def did (c : Instr) (s : State) : State :=
  match exec c s with
  | .next t => t
  | .fault _ => s
  | .refused _ => s

/-- The state after a command has waited and been granted. -/
def granted (c : Instr) (s : State) : State := did c (asked c s)

/-- The result and the data that a port is about to send. -/
def answer (s : State) (p : Port) : List Byte :=
  match (s.port p).frame with
  | .answering _ bytes _ => bytes
  | .idle => []
  | .receiving _ => []
  | .waiting _ => []

/-- Records put in slots. -/
def withPlates (s : State) (ps : List (Slot × Plate)) : State := ps.foldl (fun t x => t.modPlate x.1 fun _ => x.2) s

/-- A channel's record put in place. -/
def withChan (s : State) (c : Chan) (k : Channel) : State := s.modChan c fun _ => k

/-- A port's attention state put in place. -/
def withAttention (s : State) (p : Port) (a : Attention) : State := s.modPort p fun q => { q with attn := a }

/-- Type 3 of 2.6.1 and 3.9. -/
def type3 : TypeImage where
  valid := 1
  thickness := 170
  curve0 := ⟨300, 60⟩
  curve1 := ⟨500, 85⟩
  curve2 := ⟨700, 100⟩
  curve3 := ⟨900, 112⟩
  curve4 := ⟨1200, 125⟩
  curve5 := ⟨1600, 135⟩
  faceDose := 14000
  backMaxS := 120
  faceMaxS := 1500
  rateFresh := 180
  sens := 6
  density := 1040
  dryBase := 45
  drySlope := 20
  detackDose := 5000
  postDose := 4000
  detackMaxS := 1200
  postMaxS := 1200

/-- The refused record of 2.6.2. -/
def levelType : TypeImage :=
  { type3 with
    thickness := 284
    curve0 := ⟨400, 90⟩
    curve1 := ⟨650, 120⟩
    curve2 := ⟨900, 150⟩
    curve3 := ⟨1100, 150⟩
    curve4 := ⟨1400, 180⟩
    curve5 := ⟨1800, 200⟩ }

/-- The lot of the worked plate (3.9). -/
def lot3 : LotImage := ⟨3, 412, 0, 0, 900, 600, 63, 55, 5⟩

/-- The part with type 3 stored. -/
def typed : State := State.reset.setType 3 type3.unclamped

/-- The exposure queue of 1.8.1. -/
def queued : State :=
  { withPlates typed [(2, { state := .staged, rush := true, typeIx := 3 }), (7, { state := .staged, rush := true }),
      (3, { state := .staged }), (4, { state := .staged })] with exposureQ := [2, 7, 3, 4] }

/-- A plate in slot 2 of one state. -/
def one (p : Plate) : State := withPlates typed [(2, p)]

/-- A bed with plates and marks, in one frame state. -/
def bed (st : FrameState) (a b : Lane) (ps : List (Slot × Plate)) : State :=
  { withPlates State.reset ps with frame := ⟨st, a, b⟩ }

/-- The processor of 3.9.4: one plate of mass 3,087 in transit, M 61,200, and the worked plate EXPOSED in slot 2. -/
def washer : State :=
  { withPlates typed [(2, { state := .exposed, typeIx := 3, relief := 63, mass := 1946 }),
      (5, { state := .washing, mass := 3087 })] with
    washQ := [2]
    transit := [⟨5, 700, false⟩]
    solvent := ⟨some 61200, .opened, false⟩ }

/-- A drawer in one state. -/
def drawn (d : Drawer) (p : Plate) : State := (one p).modDrawer 1 fun _ => d

/-- A finisher position in one state. -/
def finishing (f : Finisher) (p : Plate) : State := { one p with finisher := f }

/-- Every bank READY. -/
def lit (s : State) : State := { s with banks := Vector.replicate 4 ⟨.ready, 0, some 1500⟩ }

/-- The record of a channel under way for slot 2. -/
def counting (need limit bad : Nat) : Channel :=
  { state := .running, slot := some 2, need := some need, limit := some limit, elapsed := 100, interval := some 100,
    lastGood := 30, badCount := bad, readOutstanding := true }

/-- A narrow plate on lane A with its back channel running, and that channel's read on the link. -/
def running (limit bad : Nat) : State :=
  { withChan (bed .backRun { slot := some 2 } {} [(2, { state := .onFrame, lane := some .a })]) .backA
      (counting 100000 limit bad) with
    link := { busy := some ⟨.backA, 100, true⟩ } }

/-- A wide plate with its back pair running, and BACK-A's read on the link. -/
def runningWide : State :=
  { withChan (withChan
      (bed .backRun { slot := some 2 } { slot := some 2 } [(2, { state := .onFrame, lane := some .both })]) .backA
      { counting 100000 120000 0 with partner := some .backB }) .backB
      { counting 100000 120000 0 with partner := some .backA, accumulator := 5000, readOutstanding := false } with
    link := { busy := some ⟨.backA, 100, true⟩ } }

/-- Two narrow plates with both back channels running, and no read under way. -/
def runningTwo : State :=
  withChan (withChan
    (bed .backRun { slot := some 2 } { slot := some 3 } [(2, { state := .onFrame, lane := some .a }),
      (3, { state := .onFrame, lane := some .b })]) .backA
    { counting 100000 120000 0 with readOutstanding := false, accumulator := 7 }) .backB
    { counting 100000 120000 0 with readOutstanding := false, slot := some 3 }

/-- A finishing run with DETACK counting. -/
def runningFinish : State :=
  withChan (withChan (finishing ⟨.running, some 2, false, false⟩ { state := .finishing }) .detack
    { counting 100000 120000 0 with readOutstanding := false, accumulator := 7 }) .post
    { state := .stopped, result := some .reached, slot := some 2, limit := some 1 }

/-! ### WellFormed: each check refuses an ill-formed term -/

theorem test_wellFormed_refuses_wait_on_a_wrong_port : (Instr.arbiterWait .W 0x13 [9]).wellFormed = false := by decide
theorem test_wellFormed_refuses_wait_of_an_exempt_command : (Instr.arbiterWait .P 0x01 []).wellFormed = false := by
  decide
theorem test_wellFormed_refuses_wait_before_the_last_byte : (Instr.arbiterWait .P 0x17 [9, 0]).wellFormed = false := by
  decide
theorem test_wellFormed_refuses_a_known_code_as_unknown : (Instr.unknownCommand .P 0x44).wellFormed = false := by decide
theorem test_wellFormed_takes_0x45_as_unknown : (Instr.unknownCommand .P 0x45).wellFormed = true := by decide
theorem test_wellFormed_refuses_an_accepted_command_as_wrong_port :
    (Instr.wrongPortCommand .P 0x13 [9]).wellFormed = false := by decide
theorem test_wellFormed_refuses_a_short_wrong_port_command :
    (Instr.wrongPortCommand .W 0x13 []).wellFormed = false := by decide
theorem test_wellFormed_refuses_bankOn_of_port_P : (Instr.bankOn .P 0).wellFormed = false := by decide
theorem test_wellFormed_refuses_bankOff_of_port_W : (Instr.bankOff .W 0).wellFormed = false := by decide

/-! ### Frames, byte by byte from 11.7.1, 2.4.1 and 4.2.2 -/

theorem test_frames_of_the_common_commands :
    decodeFrame .W [0x01] = some (.readStatus .W) ∧ decodeFrame .D [0x04] = some (.evtDone .D)
      ∧ decodeFrame .E [0x06, 63] = some (.readPlate .E 63) ∧ decodeFrame .D [0x07] = some (.readLine .D) := by decide

theorem test_frames_of_the_planning_port :
    decodeFrame .P [0x17, 10, 0x01, 0x2C] = some (.setConfig 10 300)
      ∧ decodeFrame .P [0x12, 3, 0x01, 0x9C, 0, 0, 0x03, 0x84, 0x02, 0x58, 0, 63, 55, 5] = some (.stageLot lot3)
      ∧ decodeFrame .P [0x19, 0, 204] = some (.setLoading 204) := by decide

theorem test_frame_of_writeType :
    decodeFrame .P ([0x10, 3, 1, 0, 170, 0x01, 0x2C, 0, 60, 0x01, 0xF4, 0, 85, 0x02, 0xBC, 0, 100, 0x03, 0x84, 0, 112,
      0x04, 0xB0, 0, 125, 0x06, 0x40, 0, 135] ++ [0x36, 0xB0, 0, 120, 0x05, 0xDC, 0, 180, 6, 0x04, 0x10, 0, 45, 20,
      0x13, 0x88, 0x0F, 0xA0, 0x04, 0xB0, 0x04, 0xB0]) = some (.writeType 3 type3) := by decide

theorem test_frames_of_the_stations :
    decodeFrame .E [0x21, 1] = some (.bankOn .E 1) ∧ decodeFrame .D [0x21, 1] = some (.bankOn .D 1)
      ∧ decodeFrame .W [0x33, 0, 30] = some (.replenish 30) ∧ decodeFrame .D [0x40, 1, 0xFF] = some (.drawerLoad 1 0xFF)
      ∧ decodeFrame .D [0x46] = some .finishStart ∧ decodeFrame .W [0x46] = none ∧ decodeFrame .D [0x45] = none := by
  decide

theorem test_no_word_of_the_table_spells_a_row : decodeTableWord 16 0x0113 = none := by decide

/-! ### The manual's worked examples -/

/-- 3.2.1. -/
theorem test_backTargets_of_type_3 :
    [107, 88, 100, 118, 50, 150].map (backTarget type3.curve) = [817, 540, 700, 1038, 300, 1600] := by decide

/-- 3.9.1. -/
theorem test_staging_of_the_worked_plate :
    ((granted (.stageLot lot3) typed).plate 0).backTarget = 817 ∧ ((granted (.stageLot lot3) typed).plate 0).mass = 1946
      ∧ ((granted (.stageLot lot3) typed).plate 0).faceTarget = 14700
      ∧ ((granted (.stageLot lot3) typed).plate 0).dryRemaining = 4740
      ∧ answer (granted (.stageLot lot3) typed) .P = [0x00, 0, 1] := by decide

/-- 3.9.2. -/
theorem test_estimates_of_the_worked_plate :
    estimate (some 1500) (phaseNeed 817 0) = some 55 ∧ estimate (some 1800) (phaseNeed 14700 0) = some 817
      ∧ compatible 25 (some 872) (some 600) = false ∧ compatible 25 (some 872) (some 800) = true := by decide

/-- 3.9.3: the need is exceeded, so that what is left is below 0. -/
theorem test_need_after_the_back_phase :
    phaseNeed 817 81750000 = -50000 ∧ estimate (some 1500) (-50000) = some 0 ∧ referenceOf 81750000 54500 = 1500 := by
  decide

/-- 3.9.4: speed 297 and overdue time 786. -/
theorem test_claim_of_the_worked_plate :
    ((granted (.washClaim 0xFF) washer).plate 2).speed = some 297
      ∧ (granted (.washClaim 0xFF) washer).transit = [⟨5, 700, false⟩, ⟨2, 786, false⟩]
      ∧ answer (granted (.washClaim 0xFF) washer) .W = [0x00, 2, 0x01, 0x29] := by decide

/-- 3.9.4: the plate ahead is booked. -/
theorem test_washDone_books_the_mass :
    (granted (.washDone 5) washer).solvent.mass = some 64287 ∧ ((granted (.washDone 5) washer).plate 5).massCounted = true
      ∧ (granted (.washDone 5) washer).dryerQ = [5] := by decide

/-- 3.9.4: REPLENISH 30 leaves 59,610 of 66,233. -/
theorem test_replenish_drains_its_share :
    (granted (.replenish 30) { typed with solvent := ⟨some 66233, .opened, false⟩ }).solvent.mass = some 59610 := by
  decide

/-- 2.6.1: sens 160 is lowered to 100. -/
theorem test_writeType_clamps_sens :
    answer (granted (.writeType 3 { type3 with sens := 160 }) State.reset) .P = [0x01]
      ∧ ((granted (.writeType 3 { type3 with sens := 160 }) State.reset).typeRec 3).sens = 100 := by decide

/-- 2.6.2: two points of one floor. -/
theorem test_writeType_refuses_a_level_curve :
    answer (granted (.writeType 5 levelType) State.reset) .P = [0x19] := by decide

/-- 1.8.1: HOLD of slot 7. -/
theorem test_hold_leaves_the_queue :
    (granted (.hold 7) queued).exposureQ = [2, 3, 4] ∧ ((granted (.hold 7) queued).plate 7).heldFrom = some .staged := by
  decide

/-- 1.8.1: RELEASE of slot 7, a rush plate, once slot 2 has gone to the frame. -/
theorem test_release_joins_the_rush_class :
    (granted (.release 7) { queued.modPlate 7 (fun p => p.heldFor .operator .staged) with
      exposureQ := [3, 4] }).exposureQ = [7, 3, 4] := by decide

/-- 1.8.2: the washout step of a plate with a pending hold. -/
theorem test_pending_hold_ends_the_washout :
    ((granted (.washDone 9) { withPlates typed [(9, { state := .washing, holdPending := true })] with
        transit := [⟨9, 5, false⟩], solvent := ⟨some 0, .opened, false⟩ }).plate 9).holdReason = some .operator
      ∧ (granted (.washDone 9) { withPlates typed [(9, { state := .washing, holdPending := true })] with
        transit := [⟨9, 5, false⟩], solvent := ⟨some 0, .opened, false⟩ }).dryerQ = [] := by decide

/-- 1.8.3: P, E and W wait, and the pointer names P. -/
theorem test_arbiter_takes_the_ports_in_turn :
    (asked (.stageLot lot3) (asked (.readPlate .E 0) (asked (.washClaim 0xFF) typed))).arbiterChoice = some .P
      ∧ (asked (.readPlate .E 0) (asked (.washClaim 0xFF) { typed with pointer := .E })).arbiterChoice = some .E
      ∧ (asked (.hold 0) (asked (.washClaim 0xFF) { typed with pointer := .W })).arbiterChoice = some .W := by decide

/-- Port D's queue in 10.7.1. -/
def dryerAttention : Attention := ({} : Attention).arrive ⟨.drawerDry, some 2, 1⟩ |>.arrive ⟨.queueReady, none, 2⟩

/-- 10.7.1: the identifiers of EVT_FREEZE and, after the merge, of EVT_TAKE. -/
theorem test_nested_take_identifiers :
    (did (.evtFreeze .D) (nearly (.evtFreeze .D) (withAttention typed .D dryerAttention))).atn .D = true
      ∧ dryerAttention.freeze.2.bytes = [0x00, 0x60, 0xFF, 0x02]
      ∧ (dryerAttention.freeze.1.arrive ⟨.queueReady, none, 1⟩).take.2.bytes = [0x00, 0x61, 0xFF, 0x01]
      ∧ (dryerAttention.freeze.1.arrive ⟨.queueReady, none, 1⟩).take.1.atn = false := by decide

/-- The host's queue of 10.7.2, with n PLATE_DONE entries from slot 20 on. -/
def hostAttention (n : Nat) : Attention :=
  { queue := [⟨.plateHeld, some 1, 0, 0⟩, ⟨.plateHeld, some 2, 0, 0⟩, ⟨.solvent, none, 2, 0⟩]
      ++ (List.range n).map (fun k => ⟨.plateDone, some (Fin.ofNat 64 (20 + k)), 0, 0⟩)
    frozen := some ⟨.plateHeld, some 1⟩ }

/-- 10.7.2: OVERDUE of slot 40 takes the place of PLATE_DONE of slot 32; PLATE_DONE of slot 33 is then dropped. -/
theorem test_overflow_on_the_host_port :
    ((hostAttention 13).arrive ⟨.overdue, some 40, 0⟩).queue
        = (hostAttention 12).queue.take 3 ++ ⟨.overdue, some 40, 0, 0⟩ :: (hostAttention 12).queue.drop 3
      ∧ ((hostAttention 13).arrive ⟨.overdue, some 40, 0⟩).overrun = true
      ∧ (hostAttention 13).arrive ⟨.plateDone, some 33, 0⟩ = { hostAttention 13 with overrun := true } := by decide

/-- 11.8.1: the byte under way at the grant is filler, and the reply begins with the next. -/
theorem test_reply_begins_at_the_next_byte :
    ((granted (.washClaim 0xFF) washer).clockBytes .W [0, 0, 0, 0, 0, 0]).2
      = [some 0xFF, some 0x00, some 2, some 0x01, some 0x29, some 0x00] := by decide

/-- R176 and byte 1 of 11.8.1: 0x30 comes in as 0, 0, 1, 1, 0, 0, 0, 0 while 0xFF goes out. -/
theorem test_bits_pass_most_significant_first :
    ((did (.byteArrival .W 0x30) (inFrame typed .W (.receiving []))).port .W).clocks
        = [false, false, true, true, false, false, false, false].map fun bit => ⟨bit, true⟩ := by decide

/-- 11.8.2. -/
theorem test_setConfig_tightens_the_speed_limits :
    answer (granted (.setConfig 10 30) State.reset) .P = [0x01, 0, 100]
      ∧ answer (granted (.setConfig 9 700) (State.reset.setItem .vMax 100)) .P = [0x01, 0, 99] := by decide

/-- 6.10.2, sample 3: a missed reading is stood in for by the last good one, 1,810. -/
theorem test_missed_reading_is_stood_in_for :
    ((did (.sensorReadComplete none) (State.modChan (running 120000 0) .backA fun k =>
      { k with need := some 9000000, accumulator := 361000, elapsed := 200, lastGood := 1810 })).chan .backA).accumulator
      = 542000 := by decide

/-- 6.10.2, sample 8: the third missed reading in a row fails the channel, uncredited. -/
theorem test_third_missed_reading_fails :
    ((did (.sensorReadComplete none) (running 120000 2)).chan .backA).state = .failed
      ∧ ((did (.sensorReadComplete none) (running 120000 2)).chan .backA).elapsed = 100
      ∧ (did (.sensorReadComplete none) (running 120000 2)).frame.laneA.failure = true := by decide

/-- R50 and R113: a pair goes on while the smaller of its counts is below the need. -/
theorem test_pair_is_judged_by_the_smaller_count :
    ((did (.sensorReadComplete (some 60000)) runningWide).chan .backA).state = .running
      ∧ ((did (.sensorReadComplete (some 60000)) (State.modChan runningWide .backB fun k =>
        { k with accumulator := 100000 })).chan .backB).result = some .reached := by decide

/-- 6.10.1: BANK_OFF pauses the channel and abandons the interval; the count stays. -/
theorem test_bankOff_pauses :
    ((granted (.bankOff .E 0) runningTwo).chan .backA).state = .paused
      ∧ ((granted (.bankOff .E 0) runningTwo).chan .backA).interval = none
      ∧ ((granted (.bankOff .E 0) runningTwo).chan .backA).accumulator = 7 := by decide

/-- R104: a channel started with no need stops REACHED at once, and with it the phase. -/
theorem test_startBack_without_a_need_ends_at_once :
    (granted .startBack (lit (bed .loaded { slot := some 2 } {} [(2, { state := .onFrame })]))).frame.state = .backEnd := by
  decide

/-- R150: a plate taken out wet keeps the time it owes. -/
theorem test_wet_removal_keeps_the_time :
    ((granted (.drawerUnload 1) (drawn ⟨.opened, some 2, 1000⟩ { state := .drying, drawer := some 1 })).plate
      2).dryRemaining = 1000 := by decide

/-! ### Witnesses: states and operands that meet the hypotheses of each statement

Each theorem names the obligation. It has a part for each clause with hypotheses, at a boundary value of the clause's
range. The hypotheses stand in the order of the clause. -/

/-- The port's frame is in progress with these bytes. -/
abbrev got (p : Port) (bs : List Byte) : State := inFrame typed p (.receiving bs)

theorem witness_StepRunsTheFrontEvent : State.reset.pending = [] := by decide

theorem witness_EveryFrameReadsBack :
    ∃ (c : Instr) (p : Port), c.wellFormed = true ∧ commandPort c = some p
      ∧ (∀ q code params, c ≠ .arbiterWait q code params) ∧ (∀ q code, c ≠ .unknownCommand q code)
      ∧ ∀ q code params, c ≠ .wrongPortCommand q code params :=
  ⟨.writeType 3 type3, .P, by decide, by decide, by simp, by simp, by simp⟩

theorem witness_EveryReadingIsItsFrame : decodeFrame .W [0x33, 0, 30] = some (.replenish 30) := by decide

theorem witness_SelBeginsAndEndsAFrame :
    (State.reset.rstLow = false ∧ (State.reset.port .D).selLow = false)
    ∧ ∀ f ∈ [Frame.idle, .receiving [], .receiving [0x17], .waiting [0x13, 9], .answering 1 [0x00] true,
        .answering 0 [9] true, .answering 0 [] true, .answering 1 [0x10] false],
      ((inFrame typed .P f).port .P).selLow = true ∧ ((inFrame typed .P f).port .P).frame = f := by decide

theorem witness_LastByteIsTheCommandsRow :
    (∀ x ∈ [(Port.P, (0x45 : Byte), ([] : List Byte), ([] : List Byte)), (.W, 9, [0x13], [9]), (.P, 9, [0x13], [9]),
        (.D, 0x01, [], [])],
      (got x.1 x.2.2.1).rstLow = false ∧ ((got x.1 x.2.2.1).port x.1).selLow = true
        ∧ ((got x.1 x.2.2.1).port x.1).frame = .receiving x.2.2.1)
    ∧ (([] : List Byte) ++ [0x45] = [0x45] ∧ commandRow 0x45 = none)
    ∧ ([(0x13 : Byte)] ++ [9] = 0x13 :: [9] ∧ (commandRow 0x13).any fun row =>
        [(9 : Byte)].length == row.params && !accepted .W row && accepted .P row && row.arbiter)
    ∧ (([] : List Byte) ++ [0x01] = [0x01] ∧ ((commandRow 0x01).any fun row =>
        ([] : List Byte).length == row.params && accepted .D row && !row.arbiter)
      ∧ decodeFrame .D [0x01] = some (.readStatus .D)) := by decide

theorem witness_ByteBeforeTheReply :
    ((got .P [0x17, 10]).rstLow = false ∧ ((got .P [0x17, 10]).port .P).selLow = true
      ∧ ((got .P [0x17, 10]).port .P).frame = .receiving [0x17, 10] ∧ [0x17, 10] ++ [1] = (0x17 : Byte) :: [10, 1]
      ∧ (commandRow 0x17).any fun row => decide ([(10 : Byte), 1].length < row.params))
    ∧ (∀ f ∈ [Frame.waiting [0x13, 9], .idle], (inFrame typed .P f).rstLow = false
      ∧ ((inFrame typed .P f).port .P).selLow = true ∧ ((inFrame typed .P f).port .P).frame = f)
    ∧ (State.reset.port .P).selLow = false := by decide

theorem witness_ReplyIsClockedOut :
    ∃ (s : State) (p : Port) (reply : List Byte) (acted : Bool), s.rstLow = false ∧ (s.port p).selLow = true
      ∧ (s.port p).frame = .answering 1 reply acted :=
  ⟨inFrame typed .W (.answering 1 [0, 2, 1, 0x29] true), .W, [0, 2, 1, 0x29], true, by decide⟩

theorem witness_CompleteCommandWaits :
    arbiterFrameOk .P 0x13 [9] = true
      ∧ LastByteDue (.arbiterWait .P 0x13 [9]) (nearly (.arbiterWait .P 0x13 [9]) typed) := by decide

theorem witness_UnknownAndWrongPortAreAnswered :
    (commandRow 0x45 = none ∧ LastByteDue (.unknownCommand .P 0x45) (nearly (.unknownCommand .P 0x45) typed))
    ∧ (wrongPortFrameOk .W 0x13 [9] = true
      ∧ LastByteDue (.wrongPortCommand .W 0x13 [9]) (nearly (.wrongPortCommand .W 0x13 [9]) typed)) := by decide

theorem witness_PowerOnResetThenRstRise :
    ∃ (c : Instr) (s : State), s.rstLow = true ∧ c ≠ .powerOnReset ∧ c ≠ .rstRise ∧ (∀ p, c ≠ .selFall p)
      ∧ ∀ p, c ≠ .selRise p :=
  ⟨.startBack, did .powerOnReset typed, by decide, by decide, by decide, by simp, by simp⟩

theorem witness_PowerOnResetThenRstRise_sel :
    (∀ s ∈ [did .powerOnReset typed], s.rstLow = true ∧ (s.port .D).selLow = false)
    ∧ ∀ s ∈ [did .powerOnReset (got .D [0x17])], s.rstLow = true ∧ (s.port .D).selLow = true
      ∧ (s.port .D).frame = .idle ∧ (s.port .D).dataOut = none ∧ (s.port .D).clocks = [] := by decide

theorem witness_StatusAndPortReset :
    LastByteDue (.readStatus .P) (nearly (.readStatus .P) typed)
      ∧ LastByteDue (.portReset .D) (nearly (.portReset .D) typed) := by decide

/-- A port about to take the last byte of an attention command. -/
def attending (c : Instr) (p : Port) (a : Attention) : State := nearly c (withAttention typed p a)

/-- What AttentionOk asks, as finite checks. -/
abbrev AttentionChecked (a : Attention) : Prop :=
  a.queue.Pairwise (fun x y => x.cls.rank ≤ y.cls.rank) ∧ a.queue.Pairwise (fun x y => x.key ≠ y.key)
    ∧ a.queue.length ≤ 16 ∧ (∀ x ∈ a.queue, x.recurrence ≤ 15 ∧ x.param ≤ 255)
    ∧ ∀ k ∈ a.frozen, ∃ x ∈ a.queue, x.key = k ∧ a.eligibleClass x.cls = true

theorem AttentionChecked.ok {a : Attention} (h : AttentionChecked a) : AttentionOk a :=
  ⟨h.1, h.2.1, h.2.2.1, h.2.2.2.1, h.2.2.2.2⟩

/-- The dryer's queue with DRAWER_DRY in service: nothing is eligible but QUEUE_READY. -/
def servedAttention : Attention := { dryerAttention with inService := 0x80 }

/-- The dryer's queue with QUEUE_READY in service: nothing is eligible. -/
def blockedAttention : Attention := { dryerAttention with inService := 0x40 }

theorem witness_FreezeSelectsTheFirstEligible :
    (∀ a ∈ [dryerAttention.freeze.1, servedAttention, blockedAttention, {}],
      LastByteDue (.evtFreeze .D) (attending (.evtFreeze .D) .D a) ∧ AttentionChecked a
        ∧ ((attending (.evtFreeze .D) .D a).port .D).attn = a)
    ∧ (⟨.queueReady, none, 2, 0⟩ ∈ dryerAttention.freeze.1.queue
      ∧ dryerAttention.freeze.1.frozen = some (Entry.key ⟨.queueReady, none, 2, 0⟩))
    ∧ (servedAttention.frozen = none
      ∧ servedAttention.queue = ⟨.queueReady, none, 2, 0⟩ :: [⟨.drawerDry, some 2, 1, 0⟩]
      ∧ ∃ y ∈ servedAttention.queue, servedAttention.eligibleClass y.cls = true)
    ∧ ∀ a ∈ [blockedAttention, {}], a.frozen = none ∧ ∀ y ∈ a.queue, a.eligibleClass y.cls = false := by decide

theorem witness_TakeRemovesTheFrozenEntry :
    (∀ a ∈ [dryerAttention.freeze.1, dryerAttention],
      LastByteDue (.evtTake .D) (attending (.evtTake .D) .D a) ∧ AttentionChecked a
        ∧ ((attending (.evtTake .D) .D a).port .D).attn = a)
    ∧ (dryerAttention.freeze.1.queue = [] ++ ⟨.queueReady, none, 2, 0⟩ :: [⟨.drawerDry, some 2, 1, 0⟩]
      ∧ dryerAttention.freeze.1.frozen = some (Entry.key ⟨.queueReady, none, 2, 0⟩))
    ∧ dryerAttention.frozen = none := by decide

theorem witness_DoneRemovesTheTopClass :
    ∀ x ∈ [(0x101#9, 0), (0x100#9, 8), (0x000#9, 9)],
      LastByteDue (.evtDone .E) (attending (.evtDone .E) .E { inService := x.1 })
        ∧ ((attending (.evtDone .E) .E { inService := x.1 }).port .E).attn.inService = x.1
        ∧ (x.2 < 9 → x.1.getLsbD x.2 = true) ∧ ∀ m < x.2, x.1.getLsbD m = false := by decide

theorem witness_ArrivalMerges :
    ∀ n ∈ [0, 14, 15],
      AttentionChecked { queue := [⟨.queueReady, none, 2, n⟩, ⟨.drawerDry, some 2, 1, 0⟩] }
        ∧ (Entry.mk .queueReady none 2 n).cls = (Event.mk .queueReady none 1).cls
        ∧ (Entry.mk .queueReady none 2 n).slot = (Event.mk .queueReady none 1).slot := by decide

theorem witness_ArrivalIsPlacedByClass :
    AttentionChecked (hostAttention 12)
      ∧ (∀ x ∈ (hostAttention 12).queue, x.cls = EventClass.overdue → x.slot ≠ some 40)
      ∧ (hostAttention 12).queue.length = 15
      ∧ (hostAttention 12).queue = (hostAttention 12).queue.take 3 ++ (hostAttention 12).queue.drop 3
      ∧ (∀ x ∈ (hostAttention 12).queue.take 3, x.cls.rank ≤ EventClass.overdue.rank)
      ∧ ∀ x ∈ (hostAttention 12).queue.drop 3, EventClass.overdue.rank < x.cls.rank := by decide

theorem witness_ArrivalAtAFullQueue :
    AttentionChecked (hostAttention 13) ∧ (hostAttention 13).queue.length = 16
    ∧ ((∀ x ∈ (hostAttention 13).queue, x.cls = EventClass.overdue → x.slot ≠ some 40)
      ∧ (hostAttention 13).queue = (hostAttention 12).queue ++ ⟨.plateDone, some 32, 0, 0⟩ :: []
      ∧ (hostAttention 13).frozen ≠ some (Entry.key ⟨.plateDone, some 32, 0, 0⟩)
      ∧ EventClass.overdue.rank < EventClass.plateDone.rank
      ∧ (∀ x ∈ (hostAttention 12).queue, (hostAttention 13).frozen ≠ some x.key →
          x.cls.rank ≤ EventClass.plateDone.rank)
      ∧ (hostAttention 12).queue ++ [] = (hostAttention 12).queue.take 3 ++ (hostAttention 12).queue.drop 3
      ∧ (∀ x ∈ (hostAttention 12).queue.take 3, x.cls.rank ≤ EventClass.overdue.rank)
      ∧ ∀ x ∈ (hostAttention 12).queue.drop 3, EventClass.overdue.rank < x.cls.rank)
    ∧ ((∀ x ∈ (hostAttention 13).queue, x.cls = EventClass.plateDone → x.slot ≠ some 33)
      ∧ ∀ x ∈ (hostAttention 13).queue, (hostAttention 13).frozen ≠ some x.key →
          x.cls.rank ≤ EventClass.plateDone.rank) := by decide

/-- W and E wait, and the pointer names E. -/
def contended : State := asked (.washClaim 0xFF) (asked (.readPlate .E 0) { queued with pointer := .E })

theorem witness_WaitingCommandIsNotOvertaken :
    Granted (.readPlate .E 0) contended ∧ commandPort (.readPlate .E 0) = some .E
      ∧ frameBytes (.readPlate .E 0) = 0x06 :: [0] ∧ decodeFrame .E (0x06 :: [0]) = some (.readPlate .E 0)
      ∧ ((commandRow 0x06).any fun row => row.arbiter) = true
      ∧ exec (.readPlate .E 0) contended = .next (did (.readPlate .E 0) contended) ∧ Port.W ≠ .E
      ∧ (contended.port .W).frame = .waiting [0x30, 0xFF] ∧ Port.D ≠ .W ∧ contended.looksFirst .W .D := by
  refine ⟨by decide, by decide, by decide, by decide, by decide, rfl, by decide, by decide, by decide, ?_⟩
  unfold State.looksFirst
  decide

theorem witness_ReplyHasTheTablesLength :
    (commandPort (.readLine .W) = some .W ∧ frameBytes (.readLine .W) = 0x07 :: []
      ∧ decodeFrame .W [0x07] = some (.readLine .W) ∧ (commandRow 0x07).any (fun row => row.arbiter)
      ∧ Granted (.readLine .W) (asked (.readLine .W) typed))
    ∧ (commandPort (.readStatus .P) = some .P ∧ frameBytes (.readStatus .P) = 0x01 :: []
      ∧ decodeFrame .P [0x01] = some (.readStatus .P) ∧ (commandRow 0x01).any (fun row => !row.arbiter)
      ∧ LastByteDue (.readStatus .P) (nearly (.readStatus .P) typed)) := by decide

theorem witness_RefusalChangesNothing :
    Granted (.hold 63) (asked (.hold 63) typed) ∧ commandPort (.hold 63) = some .P
      ∧ exec (.hold 63) (asked (.hold 63) typed) = .next (granted (.hold 63) typed)
      ∧ ((granted (.hold 63) typed).port .P).frame = .answering 1 (0x13 :: []) true ∧ (0x13 : Byte) ≠ 0x00
      ∧ (0x13 : Byte) ≠ 0x01 :=
  ⟨by decide, by decide, rfl, by decide, by decide, by decide⟩

/-- A plate in each wait list: slot 0 staged, 1 exposed, 2 washed, 63 dried, and a plate HELD in slot 62. -/
def listed : State :=
  { withPlates typed [(0, { state := .staged, typeIx := 3 }), (1, { state := .exposed, typeIx := 3, relief := 63 }),
      (2, { state := .washed, dryRemaining := 4740 }), (63, { state := .dried })] with
    exposureQ := [0]
    washQ := [1]
    dryerQ := [2]
    finisherQ := [63]
    solvent := ⟨some 61200, .opened, false⟩ }

/-- A HELD plate. -/
def heldPlate (f : HeldFrom) : Plate := { state := .held, holdReason := some .operator, heldFrom := some f }

theorem witness_HoldTakesEffect :
    (∀ b ∈ [(64 : Byte), 255], Granted (.hold b) (asked (.hold b) listed) ∧ 63 < b.toNat)
    ∧ (∀ x ∈ [(WaitList.exposure, PlateState.staged, HeldFrom.staged, (0 : Slot)), (.wash, .exposed, .exposed, 1),
        (.dryer, .washed, .washed, 2), (.finisher, .dried, .dried, 63)],
      Granted (.hold (nameOf x.2.2.2)) (asked (.hold (nameOf x.2.2.2)) listed)
        ∧ (nameOf x.2.2.2).toNat = x.2.2.2.val
        ∧ (x.1, x.2.1, x.2.2.1) ∈ [(WaitList.exposure, PlateState.staged, HeldFrom.staged),
          (.wash, .exposed, .exposed), (.dryer, .washed, .washed), (.finisher, .dried, .dried)]
        ∧ ((asked (.hold (nameOf x.2.2.2)) listed).plate x.2.2.2).state = x.2.1
        ∧ (asked (.hold (nameOf x.2.2.2)) listed).waitList x.1 = [] ++ x.2.2.2 :: [] ∧ x.2.2.2 ∉ ([] : List Slot))
    ∧ (∀ st ∈ [PlateState.onFrame, .washing, .drying, .finishing, .free, .done, .held, .scrapped],
      Granted (.hold 2) (asked (.hold 2) (one { state := st })) ∧ (2 : Byte).toNat = (2 : Slot).val
        ∧ ((asked (.hold 2) (one { state := st })).plate 2).state = st) := by decide

theorem witness_ReleaseSendsThePlateOn :
    (Granted (.release 64) (asked (.release 64) listed) ∧ 63 < (64 : Byte).toNat)
    ∧ (∀ x ∈ [(({ heldPlate .staged with rush := true } : Plate), ([2, 7] : List Slot), ([3, 4] : List Slot)),
        (heldPlate .staged, [2, 7], [3, 4])],
      ∀ s ∈ [asked (.release 63) (withPlates queued [(63, x.1)])],
        Granted (.release 63) s ∧ (63 : Byte).toNat = (63 : Slot).val ∧ (s.plate 63).state = .held
        ∧ (s.plate 63).heldFrom = some .staged ∧ s.exposureQ = x.2.1 ++ x.2.2
        ∧ (∀ j ∈ x.2.1, (s.plate j).rush = true) ∧ ∀ j ∈ x.2.2, (s.plate j).rush = false)
    ∧ (∀ x ∈ [(WaitList.wash, PlateState.exposed, HeldFrom.exposed, Port.W, 3), (.dryer, .washed, .washed, .D, 1),
        (.finisher, .dried, .dried, .D, 2)],
      ∀ s ∈ [asked (.release 62) (withPlates listed [(62, heldPlate x.2.2.1)]),
          asked (.release 62) (withPlates typed [(62, heldPlate x.2.2.1)])],
        Granted (.release 62) s ∧ (62 : Byte).toNat = (62 : Slot).val ∧ (s.plate 62).state = .held
          ∧ (s.plate 62).heldFrom = some x.2.2.1)
    ∧ (∀ s ∈ [asked (.release 62) (withPlates listed [(62, heldPlate .done)])],
      Granted (.release 62) s ∧ (s.plate 62).state = .held ∧ (s.plate 62).heldFrom = some .done)
    ∧ ∀ h ∈ [true, false], ∀ s ∈ [asked (.release 2) (one { state := .washing, holdPending := h })],
      Granted (.release 2) s ∧ (s.plate 2).state ≠ .held ∧ (s.plate 2).holdPending = h := by decide

theorem witness_ScrapAndPurgeClearTheLine :
    (Granted (.scrap 64) (asked (.scrap 64) listed) ∧ Granted (.purge 64) (asked (.purge 64) listed)
      ∧ 63 < (64 : Byte).toNat)
    ∧ (∀ x ∈ [(WaitList.exposure, PlateState.staged, (0 : Slot)), (.wash, .exposed, 1), (.dryer, .washed, 2),
        (.finisher, .dried, 63)],
      ∀ s ∈ [asked (.scrap (nameOf x.2.2)) listed], Granted (.scrap (nameOf x.2.2)) s
        ∧ (nameOf x.2.2).toNat = x.2.2.val ∧ (s.plate x.2.2).state = x.2.1
        ∧ s.waitList x.1 = [] ++ x.2.2 :: [] ∧ x.2.2 ∉ ([] : List Slot))
    ∧ (∀ st ∈ [PlateState.held, .onFrame, .washing, .drying, .finishing, .free, .done, .scrapped],
      ∀ s ∈ [asked (.scrap 2) (one { state := st })], Granted (.scrap 2) s ∧ (s.plate 2).state = st)
    ∧ (∀ st ∈ [PlateState.done, .scrapped], ∀ s ∈ [asked (.purge 2) (one { state := st })],
      Granted (.purge 2) s ∧ (s.plate 2).state = st ∧ ∀ d, (s.drawer d).slot ≠ some 2)
    ∧ (∀ s ∈ [asked (.purge 2) (drawn ⟨.dry, some 2, 0⟩ { state := .scrapped, drawer := some 1 })],
      Granted (.purge 2) s ∧ (s.plate 2).state = .scrapped ∧ (s.drawer 1).slot = some 2)
    ∧ ∀ s ∈ [asked (.purge 2) (one { state := .held })],
      Granted (.purge 2) s ∧ (s.plate 2).state ∉ [PlateState.done, .scrapped] := by decide

theorem witness_ReadPlateShowsTheRecord :
    (Granted (.readPlate .E 64) (asked (.readPlate .E 64) listed) ∧ 63 < (64 : Byte).toNat)
    ∧ (Granted (.readPlate .D 63) (asked (.readPlate .D 63) listed) ∧ (63 : Byte).toNat = (63 : Slot).val) := by decide

theorem witness_ReadLineShowsTheLine : Granted (.readLine .W) (asked (.readLine .W) listed) := by decide

/-- The points of a curve rise in dose and in floor. -/
abbrev Rises (t : TypeImage) : Prop :=
  76 ≤ t.thickness.toNat ∧ t.thickness.toNat ≤ 700 ∧ t.curve.toList.Pairwise (fun a b => a.dose < b.dose)
    ∧ t.curve.toList.Pairwise (fun a b => a.floor < b.floor)
    ∧ ∀ pt ∈ t.curve.toList, 1 ≤ pt.dose ∧ pt.floor < t.thickness.toNat

theorem witness_WriteTypeChecksThenStores :
    (Granted (.writeType 16 type3) (asked (.writeType 16 type3) typed) ∧ 15 < (16 : Byte).toNat)
    ∧ (∀ t ∈ [{ type3 with valid := 2 }], Granted (.writeType 15 t) (asked (.writeType 15 t) typed)
      ∧ (15 : Byte).toNat = (15 : Fin 16).val ∧ 1 < t.valid.toNat)
    ∧ (∀ s ∈ [asked (.writeType 3 type3) (one { state := .held, typeIx := 3 })], Granted (.writeType 3 type3) s
      ∧ type3.valid.toNat ≤ 1
      ∧ ∃ i, (s.plate i).typeIx = 3 ∧ (s.plate i).state ∉ [PlateState.free, .done, .scrapped])
    ∧ (∀ t ∈ [{ type3 with valid := 0 }, levelType, { type3 with thickness := 75 }, type3,
        { type3 with thickness := 700, sens := 101 }],
      ∀ s ∈ [asked (.writeType 3 t) (one { state := .done, typeIx := 3 })], Granted (.writeType 3 t) s
        ∧ t.valid.toNat ≤ 1
        ∧ ∀ i, (s.plate i).typeIx = 3 → (s.plate i).state ∈ [PlateState.free, .done, .scrapped])
    ∧ ¬ Rises levelType ∧ ¬ Rises { type3 with thickness := 75 } ∧ Rises type3
    ∧ Rises { type3 with thickness := 700, sens := 101 } := by decide

theorem witness_ReadTypeAndReadConfigShowWhatIsStored :
    (Granted (.readType 16) (asked (.readType 16) typed) ∧ 15 < (16 : Byte).toNat)
    ∧ (Granted (.readType 15) (asked (.readType 15) typed) ∧ (15 : Byte).toNat = (15 : Fin 16).val)
    ∧ Granted (.readConfig 16) (asked (.readConfig 16) typed)
    ∧ Granted (.readConfig 15) (asked (.readConfig 15) typed) ∧ (15 : Byte).toNat = Item.washTail.index.val := by decide

theorem witness_SetConfigStoresTheValueInRange :
    (Granted (.setConfig 16 0) (asked (.setConfig 16 0) typed) ∧ 15 < (16 : Byte).toNat)
    ∧ (Granted (.setConfig 9 0xFFFF) (asked (.setConfig 9 0xFFFF) typed) ∧ (9 : Byte).toNat = Item.vMin.index.val
      ∧ 599 = min (max 20 (min 1000 (0xFFFF : Word).toNat)) ((asked (.setConfig 9 0xFFFF) typed).item .vMax - 1))
    ∧ (Granted (.setConfig 13 0) (asked (.setConfig 13 0) typed) ∧ (13 : Byte).toNat = Item.lHold.index.val
      ∧ 221 = max (max 1 (min 1000 (0 : Word).toNat)) ((asked (.setConfig 13 0) typed).item .lResume + 1))
    ∧ (Granted (.setConfig 0 17) (asked (.setConfig 0 17) typed) ∧ (0 : Byte).toNat = Item.sampleDiv.index.val
      ∧ 16 = max 1 (min 16 (17 : Word).toNat)) := by decide

/-- Sixty-three plates staged: slot 63 alone is FREE. -/
def crowded : State := { typed with plates := Vector.ofFn fun n => { state := if n = 63 then .free else .staged } }

theorem witness_StageLotStagesItsCopies :
    (∀ lot ∈ [{ lot3 with copiesLess1 := 16 }, { lot3 with rush := 2 }],
      Granted (.stageLot lot) (asked (.stageLot lot) typed) ∧ (15 < lot.copiesLess1.toNat ∨ 1 < lot.rush.toNat))
    ∧ (∀ lot ∈ [{ lot3 with typeIx := 16 }], Granted (.stageLot lot) (asked (.stageLot lot) typed)
      ∧ lot.copiesLess1.toNat ≤ 15 ∧ lot.rush.toNat ≤ 1 ∧ 15 < lot.typeIx.toNat)
    ∧ (∀ lot ∈ [{ lot3 with typeIx := 15 }], Granted (.stageLot lot) (asked (.stageLot lot) typed)
      ∧ lot.typeIx.toNat = (15 : Fin 16).val ∧ ((asked (.stageLot lot) typed).typeRec 15).valid = false)
    ∧ (∀ lot ∈ [{ lot3 with relief := 0 }, { lot3 with relief := 170 }],
      Granted (.stageLot lot) (asked (.stageLot lot) typed)
      ∧ ((asked (.stageLot lot) typed).typeRec 3).valid = true
      ∧ (lot.relief.toNat = 0 ∨ ((asked (.stageLot lot) typed).typeRec 3).thickness ≤ lot.relief.toNat))
    ∧ (∀ lot ∈ [{ lot3 with width := 1521 }, { lot3 with length := 1271 }, { lot3 with width := 0, relief := 169 }],
      ∀ s ∈ [asked (.stageLot lot) typed], Granted (.stageLot lot) s ∧ 1 ≤ lot.relief.toNat
      ∧ lot.relief.toNat < (s.typeRec 3).thickness
      ∧ (lot.width.toNat = 0 ∨ 2 * s.item .laneWidth < lot.width.toNat ∨ lot.length.toNat = 0
          ∨ s.item .bedLength < lot.length.toNat))
    ∧ (∀ lot ∈ [{ lot3 with copiesLess1 := 1, width := 1520, length := 1270 }],
      ∀ s ∈ [asked (.stageLot lot) crowded], Granted (.stageLot lot) s ∧ (s.typeRec 3).valid = true
      ∧ 1 ≤ lot.width.toNat ∧ lot.width.toNat ≤ 2 * s.item .laneWidth ∧ 1 ≤ lot.length.toNat
      ∧ lot.length.toNat ≤ s.item .bedLength
      ∧ s.plates.toList.countP (fun p => p.state == .free) < lot.copiesLess1.toNat + 1)
    ∧ (∀ lot ∈ [{ lot3 with rush := 1, trim := 0x80 }, lot3],
      ∀ s ∈ [asked (.stageLot lot) crowded], Granted (.stageLot lot) s ∧ (s.typeRec 3).valid = true
      ∧ ([63] : List Slot).length = lot.copiesLess1.toNat + 1 ∧ ([63] : List Slot).Pairwise (fun i j => i < j)
      ∧ (∀ i ∈ ([63] : List Slot), (s.plate i).state = .free)
      ∧ (∀ i j, (s.plate i).state = .free → i ∉ ([63] : List Slot) → j ∈ ([63] : List Slot) → j < i)
      ∧ ([63] : List Slot).head? = some 63 ∧ s.exposureQ = [] ++ []
      ∧ ∀ i ∈ s.exposureQ, (s.plate i).state ≠ .free) := by
  refine ⟨by decide, by decide, by decide, by decide, by decide, by decide, ?_⟩
  intro lot hl s hs
  simp only [List.mem_cons, List.not_mem_nil, or_false] at hl hs
  subst hs
  refine ⟨by rcases hl with rfl | rfl <;> decide, by rcases hl with rfl | rfl <;> decide,
    by rcases hl with rfl | rfl <;> decide, by decide, by rcases hl with rfl | rfl <;> decide, ?_, by decide,
    by rcases hl with rfl | rfl <;> decide, by rcases hl with rfl | rfl <;> decide⟩
  have only : ∀ i : Slot, (crowded.plate i).state = .free → i ∈ ([63] : List Slot) := by decide
  intro i j hf hi
  exact absurd (only i hf) hi

/-- An exposure queue of plates of one width. -/
def exposing (width : Nat) : State :=
  { withPlates typed [(2, { state := .staged, typeIx := 3, width := width, length := 1270 }),
      (7, { state := .staged, typeIx := 3, width := 761, length := 600 }),
      (63, { state := .staged, typeIx := 3, width := 760, length := 600 })] with exposureQ := [2, 7, 63] }

theorem witness_LoadReqPlacesTheHead :
    (Granted (.loadReq 2) (asked (.loadReq 2) queued) ∧ 1 < (2 : Byte).toNat)
    ∧ (∀ s ∈ [asked (.loadReq 1) (bed .loaded { slot := some 2 } {} [])], Granted (.loadReq 1) s
      ∧ (1 : Byte).toNat ≤ 1 ∧ s.frame.state ≠ .empty)
    ∧ (∀ s ∈ [asked (.loadReq 0) typed], Granted (.loadReq 0) s ∧ s.frame.state = .empty ∧ s.exposureQ = [])
    ∧ (∀ w ∈ [1521, 1520, 761, 760], ∀ s ∈ [asked (.loadReq 1) (exposing w)], Granted (.loadReq 1) s
      ∧ s.frame.state = .empty ∧ s.exposureQ = 2 :: [7, 63] ∧ s.exposureQ.Nodup ∧ (s.plate 2).width = w
      ∧ (s.plate 2).length ≤ s.item .bedLength ∧ s.item .laneWidth = 760)
    ∧ (∀ s ∈ [asked (.loadReq 1) (exposing 760)],
      ([7, 63] : List Slot) = [7] ++ 63 :: [] ∧ ([7] : List Slot).length < 4
      ∧ (∀ j ∈ ([7] : List Slot), ¬ ((s.plate j).width ≤ s.item .laneWidth ∧ (s.plate j).length ≤ s.item .bedLength
        ∧ compatible (s.item .pairTol) (s.plateEstimate 2) (s.plateEstimate j) = true))
      ∧ (s.plate 63).width ≤ s.item .laneWidth ∧ (s.plate 63).length ≤ s.item .bedLength
      ∧ compatible (s.item .pairTol) (s.plateEstimate 2) (s.plateEstimate 63) = true)
    ∧ ∀ s ∈ [asked (.loadReq 1) (State.modPlate (exposing 760) 63 fun p => { p with width := 761 })],
      Granted (.loadReq 1) s ∧ s.frame.state = .empty ∧ s.exposureQ = 2 :: [7, 63]
      ∧ ∀ j ∈ ([7, 63] : List Slot).take 4, ¬ ((s.plate j).width ≤ s.item .laneWidth
        ∧ (s.plate j).length ≤ s.item .bedLength
        ∧ compatible (s.item .pairTol) (s.plateEstimate 2) (s.plateEstimate j) = true) :=
  ⟨by decide, by decide, by decide, by decide, by decide, by decide⟩

theorem witness_TheCalculatorFollowsItsFormulas :
    type3.curve.toList.Pairwise (fun a b => a.floor < b.floor) ∧ type3.curve.toList.Pairwise (fun a b => a.dose < b.dose)
    ∧ 59 < type3.curve[0].floor
    ∧ (type3.curve[0].floor ≤ 136 ∧ type3.curve[5].floor < 136)
    ∧ (∀ k : Fin 5, type3.curve[k.castSucc].floor ≤ type3.curve[k.succ].floor
      ∧ type3.curve[k.castSucc].floor < type3.curve[k.succ].floor)
    ∧ ((-20 : Int) ≤ -20 ∧ (20 : Int) ≤ 20 ∧ (0 : Int) ≤ 0 ∧ (0 : Int) < 1 ∧ 0 < 1) := by decide

/-- What LightOk asks, as finite checks. -/
def lightChecked (s : State) : Bool :=
  decide (∀ c ∈ allChans, ((s.chan c).state = .idle → s.chan c = Channel.idle)
    ∧ ((s.chan c).state ≠ .idle → (s.chan c).slot.isSome = true ∧ (s.chan c).limit.isSome = true)
    ∧ ((s.chan c).state.isActive = true → (s.chan c).need.isSome = true)
    ∧ ((s.chan c).interval.isSome = true ↔ (s.chan c).state = .running)
    ∧ ((s.chan c).result.isSome = true ↔ (s.chan c).state = .stopped)
    ∧ (s.chan c).accumulator ≤ 2 ^ 48 - 1
    ∧ (s.chan c).badCount ≤ 3 ∧ ((s.chan c).badCount = 3 → (s.chan c).state = .failed))
  && decide (∀ c ∈ allChans, s.link.due[c.index].isSome = true →
    (s.chan c).state = .running ∧ (s.chan c).readOutstanding = true ∧ s.linkCarries c = false)
  && decide (∀ r ∈ s.link.busy, r.live = true →
    (s.chan r.chan).state = .running ∧ (s.chan r.chan).readOutstanding = true)
  && decide (∀ c ∈ allChans, (s.chan c).readOutstanding = true →
    s.link.due[c.index].isSome = true ∨ s.linkCarries c = true)
  && decide (∀ c ∈ allChans, ∀ d ∈ allChans, (s.chan c).partner = some d → Chan.partnerOf c = some d
    ∧ (s.chan d).partner = some c ∧ (s.chan d).state = (s.chan c).state ∧ (s.chan d).slot = (s.chan c).slot
    ∧ (s.chan d).need = (s.chan c).need ∧ (s.chan d).limit = (s.chan c).limit)

theorem mem_allChans (c : Chan) : c ∈ allChans := by cases c <;> decide

theorem lightOk_of_checked {s : State} (h : lightChecked s = true) : LightOk s := by
  simp only [lightChecked, Bool.and_eq_true, decide_eq_true_eq] at h
  obtain ⟨⟨⟨⟨h1, h2⟩, h3⟩, h4⟩, h5⟩ := h
  refine ⟨fun c => ?_, fun c => h2 c (mem_allChans c), h3, fun c => h4 c (mem_allChans c),
    fun c d => h5 c (mem_allChans c) d (mem_allChans d)⟩
  obtain ⟨a, b, k, d, e, f, g⟩ := h1 c (mem_allChans c)
  exact ⟨a, b, k, d, e, f, g⟩

/-- What PhasesOk asks, as finite checks. -/
def phasesChecked (s : State) : Bool :=
  decide (s.frame.state = .empty ∨ s.frame.state = .loaded →
    (s.chan .backA).state = .idle ∧ (s.chan .backB).state = .idle)
  && decide (s.frame.state ≠ .faceRun → s.frame.state ≠ .faceEnd →
    (s.chan .faceA).state = .idle ∧ (s.chan .faceB).state = .idle)
  && decide ((s.chanActive .backA || s.chanActive .backB) = decide (s.frame.state = .backRun))
  && decide ((s.chanActive .faceA || s.chanActive .faceB) = decide (s.frame.state = .faceRun))
  && decide (s.finisher.state = .empty ∨ s.finisher.state = .loaded →
    (s.chan .detack).state = .idle ∧ (s.chan .post).state = .idle)
  && decide ((s.chanActive .detack || s.chanActive .post) = decide (s.finisher.state = .running))
  && decide (∀ c ∈ allChans, ∀ l ∈ [LaneId.a, .b], c.lane = some l → (s.chan c).state ≠ .idle →
    (s.chan c).slot = (s.frame.lane l).slot ∧ (s.chan c).partner.isSome = s.frame.isWide)
  && decide (∀ c ∈ allChans, c.lane = none → (s.chan c).state ≠ .idle → (s.chan c).slot = s.finisher.slot)

theorem phasesOk_of_checked {s : State} (h : phasesChecked s = true) : PhasesOk s := by
  simp only [phasesChecked, Bool.and_eq_true, decide_eq_true_eq] at h
  obtain ⟨⟨⟨⟨⟨⟨⟨h1, h2⟩, h3⟩, h4⟩, h5⟩, h6⟩, h7⟩, h8⟩ := h
  exact ⟨h1, h2, h3, h4, h5, h6, fun c l => h7 c (mem_allChans c) l (by cases l <;> decide),
    fun c => h8 c (mem_allChans c)⟩

/-- What DosesOk asks, as a finite check. -/
def dosesChecked (s : State) : Bool :=
  decide (∀ i, (s.plate i).backDelivered ≤ 2 ^ 48 - 1 ∧ (s.plate i).faceDelivered ≤ 2 ^ 48 - 1
    ∧ (s.plate i).detackDelivered ≤ 2 ^ 48 - 1 ∧ (s.plate i).postDelivered ≤ 2 ^ 48 - 1)

/-- The three premises of the statements that start or break off exposures. -/
abbrev Sound (s : State) : Prop := LightOk s ∧ PhasesOk s ∧ DosesOk s

theorem sound_of_checked {s : State} (h : (lightChecked s && phasesChecked s && dosesChecked s) = true) : Sound s := by
  simp only [Bool.and_eq_true, dosesChecked, decide_eq_true_eq] at h
  exact ⟨lightOk_of_checked h.1.1, phasesOk_of_checked h.1.2, h.2⟩

theorem witness_BanksAreSwitched :
    (Granted (.bankOn .E 4) (asked (.bankOn .E 4) typed) ∧ Granted (.bankOff .D 4) (asked (.bankOff .D 4) typed)
      ∧ 3 < (4 : Byte).toNat)
    ∧ (Granted (.bankOn .D 0) (asked (.bankOn .D 0) typed) ∧ Granted (.bankOff .E 3) (asked (.bankOff .E 3) typed)
      ∧ (0 : Byte).toNat = Bank.back.index.val ∧ (3 : Byte).toNat = Bank.post.index.val ∧ Port.D ≠ .E)
    ∧ (∀ s ∈ [asked (.bankOn .D 3) typed], Granted (.bankOn .D 3) s ∧ (s.bank .post).state = .off
      ∧ 0 < s.item .warmPost)
    ∧ (∀ s ∈ [asked (.bankOn .D 3) (typed.setItem .warmPost 0)], Granted (.bankOn .D 3) s
      ∧ (s.bank .post).state = .off ∧ s.item .warmPost = 0)
    ∧ (∀ s ∈ [asked (.bankOn .E 1) (lit typed)], Granted (.bankOn .E 1) s ∧ (s.bank .face).state ≠ .off)
    ∧ Granted (.bankOff .E 0) (asked (.bankOff .E 0) (lit runningTwo)) := by decide

/-- A LOADED or later bed with every bank READY, and a narrow plate, two narrow plates, or a wide plate. -/
def bedOne (st : FrameState) (p : Plate) : State := lit (withPlates (bed st { slot := some 2 } {} []) [(2, p)])
def bedTwo (st : FrameState) (p q : Plate) : State :=
  lit (withPlates (bed st { slot := some 2 } { slot := some 63 } []) [(2, p), (63, q)])
def bedWide (st : FrameState) (p : Plate) : State :=
  lit (withPlates (bed st { slot := some 2 } { slot := some 2 } []) [(2, p)])

/-- A plate on the frame that owes dose in both phases. -/
def onFrame (l : LanePlace) : Plate := { state := .onFrame, lane := some l, backTarget := 817, faceTarget := 14700 }

theorem witness_StartBackStartsTheBackPhase :
    (∀ s ∈ [asked .startBack typed, asked .startBack (bedOne .backEnd (onFrame .a))],
      Granted .startBack s ∧ s.frame.state ≠ .loaded)
    ∧ (∀ s ∈ [asked .startBack { bedOne .loaded (onFrame .a) with banks := Vector.replicate 4 {} }],
      Granted .startBack s ∧ s.frame.state = .loaded ∧ (s.bank .back).state ≠ .ready)
    ∧ (∀ s ∈ [asked .startBack (bedOne .loaded (onFrame .a)), asked .startBack (bedOne .loaded { state := .onFrame }),
        asked .startBack (bedTwo .loaded (onFrame .a) (onFrame .b)), asked .startBack (bedWide .loaded (onFrame .both))],
      Granted .startBack s ∧ s.frame.state = .loaded ∧ (s.bank .back).state = .ready)
    ∧ Sound (asked .startBack (bedOne .loaded (onFrame .a)))
    ∧ Sound (asked .startBack (bedOne .loaded { state := .onFrame }))
    ∧ Sound (asked .startBack (bedTwo .loaded (onFrame .a) (onFrame .b)))
    ∧ Sound (asked .startBack (bedWide .loaded (onFrame .both)))
    ∧ ((asked .startBack (bedTwo .loaded (onFrame .a) (onFrame .b))).frame.laneA.slot
      ≠ (asked .startBack (bedTwo .loaded (onFrame .a) (onFrame .b))).frame.laneB.slot)
    ∧ (asked .startBack (bedWide .loaded (onFrame .both))).frame.laneB.slot = some 2 :=
  ⟨by decide, by decide, by decide, sound_of_checked (by decide), sound_of_checked (by decide),
    sound_of_checked (by decide), sound_of_checked (by decide), by decide, by decide⟩

/-- A bed in BACK_END with a failure mark on lane A. -/
def failedBack (b : Lane) : State :=
  { bedOne .backEnd (onFrame .a) with frame := ⟨.backEnd, { slot := some 2, failure := true }, b⟩ }

theorem witness_StartFaceStartsTheFacePhase :
    (∀ s ∈ [asked .startFace typed, asked .startFace (bedOne .faceEnd (onFrame .a))],
      Granted .startFace s ∧ s.frame.state ≠ .backEnd)
    ∧ (∀ s ∈ [asked .startFace { bedOne .backEnd (onFrame .a) with banks := Vector.replicate 4 {} }],
      Granted .startFace s ∧ s.frame.state = .backEnd ∧ (s.bank .face).state ≠ .ready)
    ∧ (∀ s ∈ [asked .startFace (bedTwo .backEnd (onFrame .a) (onFrame .b)), asked .startFace (failedBack {}),
        asked .startFace (failedBack { slot := some 2 }), asked .startFace (bedWide .backEnd (onFrame .both))],
      Granted .startFace s ∧ s.frame.state = .backEnd ∧ (s.bank .face).state = .ready)
    ∧ Sound (asked .startFace (bedTwo .backEnd (onFrame .a) (onFrame .b))) ∧ Sound (asked .startFace (failedBack {}))
    ∧ Sound (asked .startFace (failedBack { slot := some 2 }))
    ∧ Sound (asked .startFace (bedWide .backEnd (onFrame .both)))
    ∧ ((asked .startFace (bedTwo .backEnd (onFrame .a) (onFrame .b))).frame.laneA.slot
      ≠ (asked .startFace (bedTwo .backEnd (onFrame .a) (onFrame .b))).frame.laneB.slot)
    ∧ (asked .startFace (failedBack { slot := some 2 })).frame.laneA.failure = true
    ∧ (asked .startFace (bedWide .backEnd (onFrame .both))).frame.laneB.slot = some 2 :=
  ⟨by decide, by decide, by decide, sound_of_checked (by decide), sound_of_checked (by decide),
    sound_of_checked (by decide), sound_of_checked (by decide), by decide, by decide, by decide⟩

theorem witness_UnloadSettlesTheBed :
    (∀ s ∈ [asked .unload (bedOne .backEnd (onFrame .a))], Granted .unload s ∧ s.frame.state ≠ .faceEnd)
    ∧ (∀ s ∈ [asked .unload (bedOne .faceEnd (onFrame .a)), asked .unload (bedWide .faceEnd (onFrame .both))],
      Granted .unload s ∧ s.frame.state = .faceEnd ∧ s.frame.laneA.slot = some 2
        ∧ (s.frame.laneB.slot = some 2 ∨ s.frame.laneB.slot = none))
    ∧ ∀ s ∈ [asked .unload (bedTwo .faceEnd (onFrame .a) (onFrame .b))], Granted .unload s
      ∧ s.frame.state = .faceEnd ∧ s.frame.laneA.slot = some 2 ∧ s.frame.laneB.slot = some 63 ∧ (2 : Slot) ≠ 63 := by
  decide

/-- A LOADED bed beside a queue with a rush plate and a normal plate. -/
def undone (h g : Bool) : State :=
  { withPlates (bedTwo .loaded { onFrame .a with holdPending := h } { onFrame .b with holdPending := g, rush := true })
      [(7, { state := .staged, rush := true }), (3, { state := .staged })] with exposureQ := [7, 3] }

theorem witness_FrameAbortUndoesALoad :
    (∀ s ∈ [asked .frameAbort typed, asked .frameAbort (bedOne .faceEnd (onFrame .a))],
      Granted .frameAbort s ∧ (s.frame.state = .empty ∨ s.frame.state = .faceEnd))
    ∧ (∀ h ∈ [true, false], ∀ s ∈ [asked .frameAbort (bedOne .loaded { onFrame .a with holdPending := h })],
      Granted .frameAbort s ∧ s.frame.state = .loaded ∧ s.frame.laneA.slot = some 2 ∧ s.exposureQ = [] ++ []
        ∧ 2 ∉ s.exposureQ ∧ s.frame.laneB.slot = none ∧ (s.plate 2).holdPending = h)
    ∧ ∀ h ∈ [true, false], ∀ g ∈ [true, false], ∀ s ∈ [asked .frameAbort (undone h g)],
      Granted .frameAbort s ∧ s.frame.state = .loaded ∧ s.frame.laneA.slot = some 2
        ∧ (s.exposureQ = [7] ++ [3] ∧ (s.plate 7).rush = true ∧ (s.plate 3).rush = false)
        ∧ 2 ∉ s.exposureQ ∧ s.frame.laneB.slot = some 63 ∧ (2 : Slot) ≠ 63 ∧ 63 ∉ s.exposureQ
        ∧ (s.plate 2).holdPending = h ∧ (s.plate 63).holdPending = g :=
  ⟨by decide, by decide, by decide⟩

theorem witness_FrameAbortBreaksOffAnExposure :
    (∀ s ∈ [asked .frameAbort (running 120000 1), asked .frameAbort runningWide, asked .frameAbort runningTwo],
      Granted .frameAbort s ∧ s.frame.state ∈ [FrameState.backRun, .backEnd, .faceRun]
        ∧ s.frame.laneA.slot = some 2)
    ∧ Sound (asked .frameAbort (running 120000 1)) ∧ Sound (asked .frameAbort runningWide)
    ∧ Sound (asked .frameAbort runningTwo)
    ∧ (asked .frameAbort (running 120000 1)).frame.laneB.slot = none
    ∧ (asked .frameAbort runningWide).frame.laneB.slot = some 2
    ∧ (asked .frameAbort runningTwo).frame.laneB.slot = some 3 :=
  ⟨by decide, sound_of_checked (by decide), sound_of_checked (by decide),
    sound_of_checked (by decide), by decide, by decide, by decide⟩

/-- A known solvent account. -/
def massed (m : Nat) (g : Gate) (w : Bool) : State := { typed with solvent := ⟨some m, g, w⟩ }

theorem witness_TheSolventAccountMovesTheGate :
    State.reset.solvent.mass = none
    ∧ ((massed 74999 .opened false).solvent.mass = some 74999 ∧ (massed 90000 .opened true).solvent.mass = some 90000
      ∧ (massed 66299 .spent true).solvent.mass = some 66299)
    ∧ (∀ s ∈ [asked (.replenish 0) typed], Granted (.replenish 0) s ∧ s.solvent.mass = none)
    ∧ (∀ s ∈ [asked (.replenish 300) washer], Granted (.replenish 300) s ∧ s.solvent.mass = some 61200
      ∧ 300 = min (300 : Word).toNat (s.item .tankL))
    ∧ (∀ s ∈ [asked (.replenish 301) washer], Granted (.replenish 301) s ∧ s.solvent.mass = some 61200
      ∧ 300 = min (301 : Word).toNat (s.item .tankL))
    ∧ Granted .solventChange (asked .solventChange typed)
    ∧ Granted (.setLoading 0xFFFF) (asked (.setLoading 0xFFFF) typed) :=
  ⟨by decide, ⟨rfl, rfl, rfl⟩, by decide, by decide, by decide, by decide, by decide⟩

/-- Three plates in transit. -/
def fullWasher : State := { washer with transit := [⟨5, 1, false⟩, ⟨6, 2, false⟩, ⟨9, 0, true⟩] }

theorem witness_WashClaimAdmitsAPlate :
    (∀ b ∈ [(64 : Byte), 254], Granted (.washClaim b) (asked (.washClaim b) washer) ∧ 63 < b.toNat ∧ b ≠ 0xFF)
    ∧ (∀ s ∈ [asked (.washClaim 63) typed], Granted (.washClaim 63) s ∧ s.solvent.gate = .unknown)
    ∧ (∀ s ∈ [asked (.washClaim 0xFF) (massed 90000 .spent true)], Granted (.washClaim 0xFF) s
      ∧ s.solvent.gate = .spent)
    ∧ (∀ s ∈ [asked (.washClaim 0xFF) fullWasher], Granted (.washClaim 0xFF) s ∧ s.solvent.gate = .opened
      ∧ 3 ≤ s.transit.length)
    ∧ (∀ s ∈ [asked (.washClaim 0xFF) { washer with washQ := [] }], Granted (.washClaim 0xFF) s
      ∧ s.solvent.gate = .opened ∧ s.transit.length < 3 ∧ s.washQ = [])
    ∧ (∀ s ∈ [asked (.washClaim 5) washer], Granted (.washClaim 5) s ∧ (5 : Byte).toNat = (5 : Slot).val
      ∧ (s.plate 5).state ≠ .exposed)
    ∧ ∀ b ∈ [(0xFF : Byte), 2], ∀ s ∈ [asked (.washClaim b) washer], Granted (.washClaim b) s
      ∧ s.solvent.gate = .opened ∧ s.transit.length < 3
      ∧ (b = 0xFF ∧ ([] : List Slot) = [] ∨ b.toNat = (2 : Slot).val ∧ (s.plate 2).state = .exposed)
      ∧ s.washQ = [] ++ 2 :: [] ∧ (2 : Slot) ∉ ([] : List Slot) ∧ s.solvent.mass = some 61200
      ∧ 214 = (61200 + (s.transit.map fun e =>
        if (s.plate e.slot).massCounted then 0 else (s.plate e.slot).mass).sum) / s.item .tankL :=
  ⟨by decide, by decide, by decide, by decide, by decide, by decide, by decide⟩

/-- Two plates in transit, the head with or without a pending hold. -/
def twoWashing (h : Bool) : State :=
  { State.modPlate washer 5 fun p => { p with holdPending := h } with transit := [⟨5, 1, false⟩, ⟨63, 0, true⟩] }

theorem witness_WashEndsBookTheMass :
    (Granted (.washDone 64) (asked (.washDone 64) washer) ∧ Granted (.washFault 64) (asked (.washFault 64) washer)
      ∧ 63 < (64 : Byte).toNat)
    ∧ (∀ s ∈ [asked (.washDone 2) washer], Granted (.washDone 2) s ∧ ∀ e ∈ s.transit, e.slot ≠ 2)
    ∧ (∀ s ∈ [asked (.washFault 2) washer], Granted (.washFault 2) s ∧ ∀ e ∈ s.transit, e.slot ≠ 2)
    ∧ (∀ s ∈ [asked (.washDone 63) (twoWashing true)], Granted (.washDone 63) s
      ∧ s.transit = ⟨5, 1, false⟩ :: [⟨63, 0, true⟩] ∧ (63 : Byte).toNat = (63 : Slot).val ∧ (5 : Slot) ≠ 63)
    ∧ (∀ h ∈ [true, false], ∀ s ∈ [asked (.washDone 5) (twoWashing h)], Granted (.washDone 5) s
      ∧ s.transit = [] ++ ⟨5, 1, false⟩ :: [⟨63, 0, true⟩] ∧ (s.plate 5).holdPending = h
      ∧ ∀ d ∈ ([] : List TransitEntry) ++ [⟨63, 0, true⟩], d.slot ≠ 5)
    ∧ ∀ s ∈ [asked (.washFault 63) (twoWashing true)], Granted (.washFault 63) s
      ∧ s.transit = [⟨5, 1, false⟩] ++ ⟨63, 0, true⟩ :: []
      ∧ ∀ d ∈ ([⟨5, 1, false⟩] : List TransitEntry) ++ [], d.slot ≠ 63 := by decide

theorem witness_DrawersAreLoadedOpenedAndClosed :
    (Granted (.drawerLoad 4 0xFF) (asked (.drawerLoad 4 0xFF) listed)
      ∧ Granted (.drawerOpen 4) (asked (.drawerOpen 4) listed) ∧ Granted (.drawerClose 4) (asked (.drawerClose 4) listed)
      ∧ 3 < (4 : Byte).toNat)
    ∧ ((3 : Byte).toNat = (3 : DrawerIx).val ∧ Granted (.drawerLoad 3 64) (asked (.drawerLoad 3 64) listed)
      ∧ 63 < (64 : Byte).toNat ∧ (64 : Byte) ≠ 0xFF)
    ∧ (∀ s ∈ [asked (.drawerLoad 1 0xFF) (drawn ⟨.dry, some 2, 0⟩ { state := .scrapped })],
      Granted (.drawerLoad 1 0xFF) s ∧ (s.drawer 1).state ≠ .empty)
    ∧ (∀ s ∈ [asked (.drawerLoad 3 0xFF) typed], Granted (.drawerLoad 3 0xFF) s ∧ (s.drawer 3).state = .empty
      ∧ s.dryerQ = [])
    ∧ (∀ s ∈ [asked (.drawerLoad 3 63) listed], Granted (.drawerLoad 3 63) s ∧ (s.drawer 3).state = .empty
      ∧ (s.plate 63).state ≠ .washed)
    ∧ (∀ b ∈ [(0xFF : Byte), 2], ∀ s ∈ [asked (.drawerLoad 3 b) listed], Granted (.drawerLoad 3 b) s
      ∧ (s.drawer 3).state = .empty ∧ s.dryerQ = [] ++ 2 :: [] ∧ (2 : Slot) ∉ ([] : List Slot)
      ∧ (b = 0xFF ∧ ([] : List Slot) = [] ∨ b.toNat = (2 : Slot).val ∧ (s.plate 2).state = .washed))
    ∧ (∀ st ∈ [DrawerState.drying, .opened, .dry, .empty],
      ∀ s ∈ [asked (.drawerOpen 1) (drawn ⟨st, some 2, 1000⟩ { state := .drying })],
        Granted (.drawerOpen 1) s ∧ (s.drawer 1).state = st)
    ∧ ∀ st ∈ [DrawerState.drying, .opened, .dry, .empty],
      ∀ s ∈ [asked (.drawerClose 1) (drawn ⟨st, some 2, 1000⟩ { state := .drying })],
        Granted (.drawerClose 1) s ∧ (s.drawer 1).state = st :=
  ⟨by decide, by decide, by decide, by decide, by decide, by decide, by decide, by decide⟩

theorem witness_DrawerUnloadEmptiesTheDrawer :
    (Granted (.drawerUnload 4) (asked (.drawerUnload 4) listed) ∧ 3 < (4 : Byte).toNat)
    ∧ (∀ s ∈ [asked (.drawerUnload 3) listed], Granted (.drawerUnload 3) s ∧ (3 : Byte).toNat = (3 : DrawerIx).val
      ∧ (s.drawer 3).state = .empty)
    ∧ ∀ st ∈ [DrawerState.drying, .opened, .dry],
      ∀ s ∈ [asked (.drawerUnload 1) (drawn ⟨st, some 2, 1000⟩ { state := .drying, drawer := some 1 })],
        Granted (.drawerUnload 1) s ∧ (s.drawer 1).slot = some 2 ∧ (s.drawer 1).state = st := by decide

/-- A dried plate in slot 2, with or without a drawer that references it. -/
def driedIn (d : Drawer) : State := { drawn d { state := .dried, drawer := some 1 } with finisherQ := [2] }

theorem witness_FinishLoadFillsThePosition :
    (Granted (.finishLoad 64) (asked (.finishLoad 64) listed) ∧ 63 < (64 : Byte).toNat ∧ (64 : Byte) ≠ 0xFF)
    ∧ (∀ s ∈ [asked (.finishLoad 0xFF) (finishing ⟨.ended, some 2, false, false⟩ { state := .finishing })],
      Granted (.finishLoad 0xFF) s ∧ s.finisher.state ≠ .empty)
    ∧ (∀ s ∈ [asked (.finishLoad 0xFF) typed], Granted (.finishLoad 0xFF) s ∧ s.finisher.state = .empty
      ∧ s.finisherQ = [])
    ∧ (∀ s ∈ [asked (.finishLoad 0) listed], Granted (.finishLoad 0) s ∧ s.finisher.state = .empty
      ∧ (s.plate 0).state ≠ .dried)
    ∧ (∀ b ∈ [(0xFF : Byte), 63], ∀ s ∈ [asked (.finishLoad b) listed], Granted (.finishLoad b) s
      ∧ s.finisher.state = .empty ∧ s.finisherQ = [] ++ 63 :: [] ∧ (63 : Slot) ∉ ([] : List Slot)
      ∧ (b = 0xFF ∧ ([] : List Slot) = [] ∨ b.toNat = (63 : Slot).val ∧ (s.plate 63).state = .dried)
      ∧ ∀ d, (s.drawer d).slot ≠ some 63)
    ∧ ∀ s ∈ [asked (.finishLoad 2) (driedIn ⟨.dry, some 2, 0⟩)], Granted (.finishLoad 2) s
      ∧ s.finisher.state = .empty ∧ (2 : Byte).toNat = (2 : Slot).val ∧ (s.plate 2).state = .dried
      ∧ s.finisherQ = [] ++ 2 :: [] ∧ (s.drawer 1).state = .dry ∧ (s.drawer 1).slot = some 2
      ∧ ∀ e, e ≠ 1 → (s.drawer e).slot ≠ some 2 :=
  ⟨by decide, by decide, by decide, by decide, by decide, by decide⟩

/-- A LOADED finisher with every bank READY, and a plate whose DETACK and POST doses have been delivered so far. -/
def finisherLoaded (d p : Nat) : State :=
  lit (finishing ⟨.loaded, some 2, false, false⟩
    { state := .finishing, typeIx := 3, detackDelivered := d, postDelivered := p })

theorem witness_FinishStartStartsTheRun :
    (∀ s ∈ [asked .finishStart typed], Granted .finishStart s ∧ s.finisher.state ≠ .loaded)
    ∧ (∀ s ∈ [asked .finishStart (finishing ⟨.loaded, some 2, false, false⟩ { state := .finishing })],
      Granted .finishStart s ∧ s.finisher.state = .loaded ∧ (s.bank .detack).state ≠ .ready)
    ∧ (∀ s ∈ [asked .finishStart (finisherLoaded 0 0), asked .finishStart (finisherLoaded 500000000 400000000)],
      Granted .finishStart s ∧ s.finisher.state = .loaded ∧ (s.bank .detack).state = .ready
        ∧ (s.bank .post).state = .ready ∧ s.finisher.slot = some 2)
    ∧ Sound (asked .finishStart (finisherLoaded 0 0))
    ∧ Sound (asked .finishStart (finisherLoaded 500000000 400000000)) :=
  ⟨by decide, by decide, by decide, sound_of_checked (by decide), sound_of_checked (by decide)⟩

theorem witness_FinishEndsEmptyThePosition :
    (∀ s ∈ [asked .finishUnload typed], Granted .finishUnload s ∧ s.finisher.state ≠ .ended)
    ∧ (∀ f ∈ [true, false], ∀ q ∈ [true, false], ∀ h ∈ [true, false],
      ∀ s ∈ [asked .finishUnload (finishing ⟨.ended, some 2, f, q⟩ { state := .finishing, holdPending := h })],
        Granted .finishUnload s ∧ s.finisher.state = .ended ∧ s.finisher.slot = some 2 ∧ s.finisher.failure = f
          ∧ s.finisher.short = q ∧ (s.plate 2).holdPending = h)
    ∧ (∀ s ∈ [asked .finishAbort typed,
        asked .finishAbort (finishing ⟨.ended, some 2, false, false⟩ { state := .finishing })],
      Granted .finishAbort s ∧ (s.finisher.state = .empty ∨ s.finisher.state = .ended))
    ∧ (∀ h ∈ [true, false], ∀ s ∈ [asked .finishAbort
        (finishing ⟨.loaded, some 2, false, false⟩ { state := .finishing, holdPending := h })],
      Granted .finishAbort s ∧ s.finisher.slot = some 2 ∧ s.finisher.state = .loaded ∧ (s.plate 2).holdPending = h)
    ∧ (∀ s ∈ [asked .finishAbort runningFinish], Granted .finishAbort s ∧ s.finisher.slot = some 2
      ∧ s.finisher.state = .running)
    ∧ Sound (asked .finishAbort runningFinish) :=
  ⟨by decide, by decide, by decide, by decide, by decide, sound_of_checked (by decide)⟩

/-- The POST bank warming. -/
def warming (n : Nat) : State := typed.modBank .post fun _ => ⟨.warming, n, none⟩

theorem witness_TimersCountAndExpire :
    (∀ n ∈ [0, 1, 2, 600], (warming n).rstLow = false ∧ ((warming n).bank .post).state = .warming
      ∧ ((warming n).bank .post).warm = n)
    ∧ (∀ n ∈ [0, 1, 2], ∀ h ∈ [true, false],
      ∀ s ∈ [drawn ⟨.drying, some 2, n⟩ { state := .drying, drawer := some 1, holdPending := h }],
        s.rstLow = false ∧ (s.drawer 1).state = .drying ∧ (s.drawer 1).slot = some 2 ∧ (s.drawer 1).remaining = n
          ∧ (s.plate 2).holdPending = h)
    ∧ (typed.bank .post).state ≠ .warming
    ∧ (∀ st ∈ [DrawerState.opened, .dry, .empty], ((drawn ⟨st, some 2, 9⟩ {}).drawer 1).state ≠ .drying)
    ∧ (∀ s ∈ [fullWasher], s.rstLow = false ∧ s.transit = [⟨5, 1, false⟩, ⟨6, 2, false⟩] ++ ⟨9, 0, true⟩ :: []
      ∧ (∀ e ∈ [(⟨5, 1, false⟩ : TransitEntry), ⟨6, 2, false⟩] ++ [], e.slot ≠ 9) ∧ ∀ e ∈ s.transit, e.slot ≠ 63)
    ∧ ∀ n ∈ [0, 1, 2], ∀ s ∈ [{ fullWasher with transit := [⟨6, 7, false⟩, ⟨5, n, false⟩] }],
      s.rstLow = false ∧ s.transit = [⟨6, 7, false⟩] ++ ⟨5, n, false⟩ :: []
        ∧ ∀ e ∈ [(⟨6, 7, false⟩ : TransitEntry)] ++ [], e.slot ≠ 5 := by decide

/-- Two channels with samples due. -/
def twoDue : State :=
  { runningTwo with link := { due := ((Vector.replicate 6 none).set 0 (some 100)).set 1 (some 90) } }

/-- A wide pair between samples. -/
def wideIdle : State :=
  { State.modChan runningWide .backA (fun k => { k with readOutstanding := false }) with link := {} }

theorem witness_SamplesFallDueAndAreRead :
    (∀ s ∈ [runningTwo], ∀ c ∈ [Chan.backA, .backB], s.rstLow = false ∧ (s.chan c).state = .running
      ∧ (s.chan c).readOutstanding = false ∧ s.linkCarries c = false ∧ (s.chan c).partner = none)
    ∧ ((wideIdle.chan .backA).state = .running ∧ (wideIdle.chan .backA).readOutstanding = false
      ∧ wideIdle.linkCarries .backA = false ∧ (wideIdle.chan .backA).partner = some .backB
      ∧ (wideIdle.chan .backB).readOutstanding = false ∧ wideIdle.linkCarries .backB = false)
    ∧ LightOk wideIdle
    ∧ (typed.chan .post).state ≠ .running
    ∧ (twoDue.rstLow = false ∧ twoDue.link.busy = none ∧ twoDue.link.due[Chan.backA.index] = some 100
      ∧ ∀ d ∈ allChans, d.index < Chan.backA.index → twoDue.link.due[d.index] = none)
    ∧ ((running 120000 0).link.busy.isSome = true ∧ ∀ c ∈ allChans, typed.link.due[c.index] = none) :=
  ⟨by decide, by decide, lightOk_of_checked (by decide), by decide, by decide, by decide⟩

/-- The read of one channel is on the link, with these figures so far. -/
def reading (s : State) (acc el bad : Nat) : State :=
  s.modChan .backA fun k => { k with accumulator := acc, elapsed := el, badCount := bad }

theorem witness_AReadingIsCreditedAndTested :
    typed.link.busy = none
    ∧ (∀ s ∈ [{ running 120000 0 with link := { busy := some ⟨.backA, 100, false⟩ } }],
      s.rstLow = false ∧ s.link.busy = some ⟨.backA, 100, false⟩)
    ∧ (∀ s ∈ [reading (running 120000 0) 99000 119800 0, reading (running 120000 0) 90000 119900 1,
        reading (running 120000 0) 99900 119900 0, reading (running 120000 0) 0 0 2, runningWide],
      s.rstLow = false ∧ s.link.busy = some ⟨.backA, 100, true⟩ ∧ (s.chan .backA).state = .running
        ∧ (s.chan .backA).slot = some 2 ∧ (s.chan .backA).need = some 100000
        ∧ (s.chan .backA).limit = some 120000)
    ∧ LightOk (reading (running 120000 0) 99000 119800 0) ∧ LightOk (reading (running 120000 0) 90000 119900 1)
    ∧ LightOk (reading (running 120000 0) 99900 119900 0) ∧ LightOk (reading (running 120000 0) 0 0 2)
    ∧ LightOk runningWide
    ∧ (99000 + (9 : Word).toNat * 100 < 100000 ∧ 119800 + 100 < 120000)
    ∧ (∀ k ∈ [(reading (running 120000 0) 90000 119900 1).chan .backA], k.badCount < 2
      ∧ k.accumulator + k.lastGood * 100 < 100000 ∧ 120000 ≤ k.elapsed + 100)
    ∧ 100000 ≤ 99900 + (1 : Word).toNat * 100
    ∧ 2 ≤ ((reading (running 120000 0) 0 0 2).chan .backA).badCount
    ∧ (runningWide.chan .backA).partner = some .backB :=
  ⟨by decide, by decide, by decide, lightOk_of_checked (by decide), lightOk_of_checked (by decide),
    lightOk_of_checked (by decide), lightOk_of_checked (by decide), lightOk_of_checked (by decide), by decide,
    by decide, by decide, by decide, by decide⟩

theorem witness_PhasesEndWithTheirLastChannel :
    (Chan.backA.lane.isSome = true ∧ runningTwo.frame.state = .backRun)
    ∧ (Chan.faceB.lane.isSome = true ∧ (bedOne .faceRun (onFrame .a)).frame.state = .faceRun)
    ∧ (Chan.detack.lane = none ∧ runningFinish.finisher.state = .running) := by decide

theorem witness_AMarkStaysSet :
    (∀ s ∈ [asked (.washFault 5) (State.modPlate washer 5 fun p => { p with marks := { overdue := true } })],
      exec (.washFault 5) s = .next (did (.washFault 5) s) ∧ (s.plate 5).state ≠ .free
        ∧ ((did (.washFault 5) s).plate 5).state ≠ .free ∧ (s.plate 5).marks.has .overdue = true)
    ∧ (∀ s ∈ [asked (.purge 2) (one { state := .done, marks := { sensorSat := true } })],
      exec (.purge 2) s = .next (did (.purge 2) s) ∧ (s.plate 2).state ≠ .free
        ∧ ((did (.purge 2) s).plate 2).state = .free)
    ∧ exec .powerOnReset washer = .next (did .powerOnReset washer) := by
  refine ⟨?_, ?_, rfl⟩
  · intro s hs
    obtain rfl := List.mem_singleton.mp hs
    exact ⟨rfl, by decide, by decide, by decide⟩
  · intro s hs
    obtain rfl := List.mem_singleton.mp hs
    exact ⟨rfl, by decide, by decide⟩

/-! ### Witnesses of the invariants: states as steps of the part leave them, and the step that each takes -/

/-- What Located asks, as finite checks. -/
def locatedChecked (s : State) : Bool :=
  decide (s.exposureQ.Nodup ∧ ∀ i, i ∈ s.exposureQ ↔ (s.plate i).state = .staged)
  && decide (s.exposureQ.Pairwise (fun i j => (s.plate j).rush = true → (s.plate i).rush = true))
  && decide (s.washQ.Nodup ∧ ∀ i, i ∈ s.washQ ↔ (s.plate i).state = .exposed)
  && decide (s.dryerQ.Nodup ∧ ∀ i, i ∈ s.dryerQ ↔ (s.plate i).state = .washed)
  && decide (s.finisherQ.Nodup ∧ ∀ i, i ∈ s.finisherQ ↔ (s.plate i).state = .dried)
  && decide ((s.transit.map (fun e => e.slot)).Nodup
    ∧ ∀ i, i ∈ s.transit.map (fun e => e.slot) ↔ (s.plate i).state = .washing)
  && decide ((s.frame.state = .empty ↔ s.frame.laneA.slot = none)
    ∧ (s.frame.laneA.slot = none → s.frame.laneB.slot = none))
  && decide (∀ i, (s.plate i).lane = s.laneOf i ∧ ((s.plate i).state = .onFrame ↔ (s.laneOf i).isSome = true))
  && decide (s.finisher.state = .empty ↔ s.finisher.slot = none)
  && decide (∀ i, (s.plate i).state = .finishing ↔ s.finisher.slot = some i)
  && decide (∀ d, (s.drawer d).state = .empty ↔ (s.drawer d).slot = none)
  && decide (∀ i d, (s.plate i).drawer = some d ↔ (s.drawer d).slot = some i)
  && decide (∀ i, (s.plate i).state = .drying ↔
    ∃ d, (s.drawer d).slot = some i ∧ ((s.drawer d).state = .drying ∨ (s.drawer d).state = .opened))
  && decide (∀ i d, (s.drawer d).slot = some i → (s.drawer d).state = .dry →
    (s.plate i).state = .dried ∨ ((s.plate i).state = .held ∧ (s.plate i).heldFrom = some .dried)
      ∨ (s.plate i).state = .scrapped)
  && decide (∀ i, ((s.plate i).state = .held ↔ (s.plate i).heldFrom.isSome = true)
    ∧ ((s.plate i).state = .held ↔ (s.plate i).holdReason.isSome = true))
  && decide (∀ i, (s.plate i).holdPending = true → (s.plate i).state.isActive = true)
  && decide (∀ i, (s.plate i).state = .free → s.plate i = Plate.cleared)

theorem located_of_checked {s : State} (h : locatedChecked s = true) : Located s := by
  simp only [locatedChecked, Bool.and_eq_true, decide_eq_true_eq] at h
  obtain ⟨⟨⟨⟨⟨⟨⟨⟨⟨⟨⟨⟨⟨⟨⟨⟨a, b⟩, c⟩, d⟩, e⟩, f⟩, g⟩, h1⟩, i⟩, j⟩, k⟩, l⟩, m⟩, n⟩, o⟩, p⟩, q⟩ := h
  exact ⟨a, b, c, d, e, f, g, h1, i, j, k, l, m, n, o, p, q⟩

/-- A plate on the frame, its back channel running between samples, and an event waiting at port E. -/
def exposingPlate : State :=
  (withChan (bedOne .backRun { onFrame .a with dryRemaining := 4740 }) .backA
    { counting 100000 120000 0 with readOutstanding := false }).post .E ⟨.bankReady, none, 0⟩

theorem witness_EveryStepKeepsTheEventQueues :
    (∀ p ∈ [Port.P, .E, .W, .D], AttentionChecked (exposingPlate.port p).attn)
      ∧ (exposingPlate.port .E).attn.queue.length = 1
      ∧ step { exposingPlate with pending := [.sampleDue .backA] } = .next (did (.sampleDue .backA) exposingPlate) :=
  ⟨by decide, by decide, rfl⟩

theorem typesOk_typed : TypesOk typed := by
  intro t
  by_cases h : t = 3
  · subst h
    show TypeOk _
    exact ⟨by decide, by decide, by decide, by decide, by decide, by decide, by decide, by decide, by decide, by decide,
      by decide, by decide, by decide, by decide, by decide⟩
  · have cleared : ∀ t : Fin 16, t ≠ 3 → typed.typeRec t = TypeRec.cleared := by decide
    rw [cleared t h]
    simp [TypeRec.cleared]

theorem settingsOk_typed : SettingsOk typed :=
  ⟨by intro x; cases x <;> decide, by decide, by decide⟩

/-- What PlatesOk asks, as finite checks. -/
def platesChecked (s : State) : Bool :=
  decide (∀ i, (s.plate i).lot ≤ 65535 ∧ (s.plate i).copy ≤ 15)
  && decide (∀ i, (s.plate i).width ≤ 3000 ∧ (s.plate i).length ≤ 2500)
  && decide (∀ i, (s.plate i).nonimage ≤ 100)
  && decide (∀ i, -20 ≤ (s.plate i).trim ∧ (s.plate i).trim ≤ 20)
  && decide (∀ i, (s.plate i).relief ≤ 699 ∧ (s.plate i).floor ≤ 699)
  && decide (∀ i, (s.plate i).backTarget ≤ 65535 ∧ (s.plate i).faceTarget ≤ 65535)
  && decide (∀ i, (s.plate i).mass ≤ 1048500)
  && decide (∀ i, ∀ v ∈ (s.plate i).speed, 20 ≤ v ∧ v ≤ 3000)
  && decide (∀ i, (s.plate i).state ≠ .free → 1 ≤ (s.plate i).width ∧ 1 ≤ (s.plate i).length
    ∧ 1 ≤ (s.plate i).relief ∧ 1 ≤ (s.plate i).floor ∧ 1 ≤ (s.plate i).backTarget ∧ 1 ≤ (s.plate i).faceTarget)
  && decide (∀ i, (s.plate i).state.usesType = true → (s.plateType i).valid = true)

theorem platesOk_of_checked {s : State} (h : platesChecked s = true) : PlatesOk s := by
  simp only [platesChecked, Bool.and_eq_true, decide_eq_true_eq] at h
  obtain ⟨⟨⟨⟨⟨⟨⟨⟨⟨a, b⟩, c⟩, d⟩, e⟩, f⟩, g⟩, k⟩, l⟩, m⟩ := h
  exact fun i => ⟨a i, b i, c i, d i, e i, f i, g i, k i, l i, m i⟩

/-- The line at work: the worked plate of 3.9 on the frame with its back channel's read on the link, another such plate in
the processor, and the POST bank warming. -/
def atWork : State :=
  { withChan (withPlates typed
      [(2, { stagedPlate 3 type3.unclamped lot3 0 with state := .onFrame, lane := some .a }),
        (5, { stagedPlate 3 type3.unclamped lot3 1 with state := .washing, speed := some 279 })]) .backA
      { counting 81700000 120000 0 with accumulator := 3000 } with
    frame := ⟨.backRun, { slot := some 2 }, {}⟩
    banks := #v[⟨.ready, 0, some 1500⟩, ⟨.ready, 0, some 65535⟩, ⟨.off, 0, none⟩, ⟨.warming, 600, some 1⟩]
    link := { busy := some ⟨.backA, 100, true⟩ }
    transit := [⟨5, 700, false⟩]
    solvent := ⟨some 61200, .opened, false⟩ }

theorem platesOk_atWork : PlatesOk atWork := platesOk_of_checked (by decide)

theorem banksInRange_atWork : BanksInRange atWork := by
  intro b
  cases b <;> exact ⟨by decide, by decide⟩

theorem witness_TheCalculatorFollowsItsFormulas_estimates :
    PlatesOk atWork ∧ BanksInRange atWork ∧ atWork.backEstimate 2 = some 55 ∧ (atWork.plateEstimate 2).isSome = true :=
  ⟨platesOk_atWork, banksInRange_atWork, by decide, by decide⟩

theorem witness_EveryStepKeepsTheFiguresInRange :
    SettingsOk atWork ∧ TypesOk atWork ∧ DosesOk atWork ∧ Located atWork ∧ PlatesOk atWork ∧ SolventOk atWork
      ∧ MassOk atWork ∧ LightInRange atWork ∧ BanksInRange atWork
      ∧ step { atWork with pending := [.sensorReadComplete (some 1800)] } =
        .next (did (.sensorReadComplete (some 1800)) atWork) := by
  refine ⟨⟨by intro x; cases x <;> decide, by decide, by decide⟩, fun t => typesOk_typed t,
    by unfold DosesOk; decide, located_of_checked (by decide), platesOk_atWork,
    ⟨by decide, by decide, by decide, by decide, by decide, by decide, by decide⟩, by unfold MassOk; decide,
    ⟨?_, by intro c; cases c <;> decide, by decide⟩, banksInRange_atWork, rfl⟩
  intro c
  cases c <;> exact ⟨by decide, by decide, by decide, by decide, by decide⟩

theorem witness_EveryStepKeepsTheSolventAccount :
    SettingsOk washer ∧ SolventOk washer ∧ Granted (.washDone 5) (asked (.washDone 5) washer)
      ∧ step { washer with pending := [.overdueTimerExpiry 5] } = .next (did (.overdueTimerExpiry 5) washer) :=
  ⟨⟨by intro x; cases x <;> decide, by decide, by decide⟩,
    ⟨by decide, by decide, by decide, by decide, by decide, by decide, by decide⟩, by decide, rfl⟩

theorem witness_EveryStepKeepsTheLightChannels :
    LightOk exposingPlate ∧ PhasesOk exposingPlate ∧ LitOk exposingPlate
      ∧ (exposingPlate.chan .backA).state = .running
      ∧ step { exposingPlate with pending := [.sampleDue .backA] } = .next (did (.sampleDue .backA) exposingPlate) :=
  ⟨lightOk_of_checked (by decide), phasesOk_of_checked (by decide), by intro c; cases c <;> decide, by decide, rfl⟩

theorem witness_EveryStepKeepsThePlatesLocated :
    Located exposingPlate ∧ PhasesOk exposingPlate ∧ DryTimesOk exposingPlate ∧ (exposingPlate.plate 2).state = .onFrame
      ∧ step { exposingPlate with pending := [.sampleDue .backA] } = .next (did (.sampleDue .backA) exposingPlate) :=
  ⟨located_of_checked (by decide), phasesOk_of_checked (by decide), ⟨by decide, by decide, by decide⟩, by decide, rfl⟩

end Sys2Proof.Tests
end

-- ==== Sys2Proof/Proofs/A ====
section
/-! The step, the rise and fall of RST, and the arbiter. -/

namespace Sys2Proof.Machine

/-! ### The step and the rows of a port -/

/-- Settles O1, by the two branches of `step`. -/
theorem stepRunsTheFrontEvent : Obligations.StepRunsTheFrontEvent :=
  ⟨fun _ _ _ => rfl, fun s h => by simp only [step, h]⟩

/-- Settles O9: the row's frame ends with its last parameter byte, or with the code where there are none. -/
theorem completeCommandWaits : Obligations.CompleteCommandWaits := by
  intro s p code params hok hdue
  have hdue : s.completes p (code :: params) = true := by simpa [LastByteDue, commandPort, frameBytes] using hdue
  have hlast : (code :: params).getLastD 0 = params.getLastD code := by
    cases params <;> rfl
  change Host.Outcome.next (if arbiterFrameOk p code params then _ else s) = _
  rw [if_pos hok, frameBytes, lastByte_of_completes _ hdue, hlast]

/-! ### While RST is low -/

theorem grant_of_rstLow {s : State} (p : Port) (bytes : List Byte) (effect : State → State × Reply)
    (h : s.rstLow = true) : grant p bytes effect s = s :=
  grant_of_not_grants effect (by simp [State.grants, h])

theorem lastByte_of_rstLow {s : State} (p : Port) (bytes : List Byte) (f : PortRec → PortRec) (h : s.rstLow = true) :
    lastByte p bytes f s = s :=
  lastByte_of_not_completes f (by simp [State.completes, h])

theorem whileUp_of_rstLow {s : State} (f : State → State) (h : s.rstLow = true) : whileUp f s = s := by
  simp [whileUp, h]

/-- A row but those of RST and SEL is a grant, the last byte of a frame, or an event of a part that is up: none of these
happens while RST is low. -/
theorem exec_of_rstLow {c : Instr} {s : State} (h : s.rstLow = true) (hreset : c ≠ .powerOnReset) (hrise : c ≠ .rstRise)
    (hfall : ∀ p, c ≠ .selFall p) (hsel : ∀ p, c ≠ .selRise p) : exec c s = .next s := by
  cases c
  case powerOnReset => exact absurd rfl hreset
  case rstRise => exact absurd rfl hrise
  case selFall p => exact absurd rfl (hfall p)
  case selRise p => exact absurd rfl (hsel p)
  case arbiterWait | unknownCommand | wrongPortCommand =>
    exact congrArg Host.Outcome.next ((congrArg (ite _ · s) (lastByte_of_rstLow _ _ _ h)).trans (ite_self s))
  case readStatus | evtFreeze | evtTake | evtDone | portReset => exact congrArg _ (lastByte_of_rstLow _ _ _ h)
  case warmTimerExpiry | dryTimerExpiry | overdueTimerExpiry | sampleDue | sensorReadStart | sensorReadComplete
      | byteArrival | timerDecrement => exact congrArg _ (whileUp_of_rstLow _ h)
  all_goals exact congrArg _ (grant_of_rstLow _ _ _ h)

/-- Two changes of a port's record that agree on the record it has. -/
theorem State.modPort_congr {s : State} {p : Port} {f g : PortRec → PortRec} (h : f (s.port p) = g (s.port p)) :
    s.modPort p f = s.modPort p g := by
  simp only [State.modPort, show f s.ports[p.index] = g s.ports[p.index] from h]

/-- A change of a port's record that changes nothing. -/
theorem State.modPort_eq_self {s : State} {p : Port} {f : PortRec → PortRec} (h : f (s.port p) = s.port p) :
    s.modPort p f = s := by
  simp only [State.modPort, show f s.ports[p.index] = s.ports[p.index] from h]
  exact congrArg (fun v => { s with ports := v }) (Vector.set_getElem_self _)

/-- Settles O11, clause by clause. -/
theorem powerOnResetThenRstRise : Obligations.PowerOnResetThenRstRise := by
  refine ⟨fun s => ?reset, fun s => rfl, fun c s h => exec_of_rstLow h, fun s p hl hs => ?fall, fun s p hs => ?fallLow,
    fun s p hl hs hf hd hc => ?rise, fun s p hs => ?riseHigh⟩
  case reset =>
    have hports : s.ports.map (fun q => ({ selLow := q.selLow } : PortRec))
        = #v[(s.port .P).poweredOn, (s.port .E).poweredOn, (s.port .W).poweredOn, (s.port .D).poweredOn] := by
      ext i hi
      have : i = 0 ∨ i = 1 ∨ i = 2 ∨ i = 3 := by omega
      rcases this with rfl | rfl | rfl | rfl <;> simp [State.port, Port.index, PortRec.poweredOn]
    rw [hports]; rfl
  case fall => simp only [exec, execSelFall, hs, hl]; rfl
  case fallLow => simp only [exec, execSelFall, hs, if_true]
  case rise =>
    exact congrArg Host.Outcome.next (State.modPort_congr (by simp [hs, hf, hd, hc, errorAfterRise]))
  case riseHigh => exact congrArg Host.Outcome.next (State.modPort_eq_self (by simp [hs]))

/-! ### The arbiter -/

/-- The first element of a list that satisfies a test is the one that satisfies it and stands before every other that
does. -/
theorem find?_eq_some_iff_idxOf {α : Type} [DecidableEq α] (f : α → Bool) {l : List α} (hl : l.Nodup) (p : α)
    (hp : p ∈ l) : l.find? f = some p ↔ f p = true ∧ ∀ q ∈ l, f q = true → q = p ∨ l.idxOf p < l.idxOf q := by
  induction l with
  | nil => simp at hp
  | cons a l ih =>
    obtain ⟨ha, hl⟩ := List.nodup_cons.mp hl
    by_cases hfa : f a = true
    · rw [List.find?_cons_of_pos hfa]
      constructor
      · intro e
        obtain rfl : a = p := Option.some.inj e
        refine ⟨hfa, fun q _ _ => ?_⟩
        by_cases hq : q = a
        · exact .inl hq
        · exact .inr (by simp [List.idxOf_cons_ne _ (Ne.symm hq)])
      · rintro ⟨-, h⟩
        rcases h a (List.mem_cons_self ..) hfa with rfl | h
        · rfl
        · simp at h
    · rw [List.find?_cons_of_neg hfa]
      by_cases hpa : p = a
      · subst hpa
        exact ⟨fun h => absurd (List.find?_some h) hfa, fun h => absurd h.1 hfa⟩
      · rw [ih hl ((List.mem_cons.mp hp).resolve_left hpa)]
        refine and_congr_right fun _ => ⟨fun h q hq hfq => ?_, fun h q hq hfq => ?_⟩
        · have hqa : q ≠ a := fun e => hfa (e ▸ hfq)
          refine (h q ((List.mem_cons.mp hq).resolve_left hqa) hfq).imp_right fun h => ?_
          rwa [List.idxOf_cons_ne _ (Ne.symm hpa), List.idxOf_cons_ne _ (Ne.symm hqa), Nat.succ_lt_succ_iff]
        · have hqa : q ≠ a := fun e => ha (e ▸ hq)
          refine (h q (List.mem_cons_of_mem _ hq) hfq).imp_right fun h => ?_
          rwa [List.idxOf_cons_ne _ (Ne.symm hpa), List.idxOf_cons_ne _ (Ne.symm hqa), Nat.succ_lt_succ_iff] at h

theorem arbiterCycle_nodup (p : Port) : (arbiterCycle p).Nodup := by cases p <;> decide

theorem mem_arbiterCycle (p q : Port) : q ∈ arbiterCycle p := by cases p <;> cases q <;> decide

theorem PortRec.isWaiting_iff (q : PortRec) : q.isWaiting = true ↔ ∃ bytes, q.frame = .waiting bytes := by
  cases h : q.frame <;> simp [PortRec.isWaiting, h]

/-- The arbiter's choice waits, and stands before every other port that waits (R19). -/
theorem State.arbiterChoice_eq_some_iff (s : State) (p : Port) : s.arbiterChoice = some p ↔
    (∃ bytes, (s.port p).frame = .waiting bytes)
      ∧ ∀ q bytes, (s.port q).frame = .waiting bytes → q = p ∨ s.looksFirst p q := by
  rw [State.arbiterChoice, find?_eq_some_iff_idxOf _ (arbiterCycle_nodup _) p (mem_arbiterCycle _ _),
    PortRec.isWaiting_iff]
  refine and_congr_right fun _ => ⟨fun h q bytes hq => ?_, fun h q _ hq => ?_⟩
  · exact h q (mem_arbiterCycle _ _) ((PortRec.isWaiting_iff _).mpr ⟨bytes, hq⟩)
  · obtain ⟨bytes, hq⟩ := (PortRec.isWaiting_iff _).mp hq
    exact h q bytes hq

theorem State.arbiterChoice_eq_none_iff (s : State) :
    s.arbiterChoice = none ↔ ∀ p bytes, (s.port p).frame ≠ .waiting bytes := by
  rw [State.arbiterChoice, List.find?_eq_none]
  constructor
  · intro h p bytes hp
    exact h p (mem_arbiterCycle _ _) ((PortRec.isWaiting_iff _).mpr ⟨bytes, hp⟩)
  · intro h p _ hp
    obtain ⟨bytes, hp⟩ := (PortRec.isWaiting_iff _).mp hp
    exact h p bytes hp

/-- Settles O21. -/
theorem arbiterChoosesTheFirstWaiting : Obligations.ArbiterChoosesTheFirstWaiting := fun s =>
  ⟨s.arbiterChoice_eq_some_iff, s.arbiterChoice_eq_none_iff, rfl, rfl, rfl, rfl⟩

end Sys2Proof.Machine
end

-- ==== Sys2Proof/Proofs/B ====
section
/-! The state after reset: each table, and the invariants. -/

namespace Sys2Proof.Machine

@[simp] theorem reset_plate (i : Slot) : State.reset.plate i = Plate.cleared := by
  simp [State.plate, State.reset]

@[simp] theorem reset_typeRec (t : Fin 16) : State.reset.typeRec t = TypeRec.cleared := by
  simp [State.typeRec, State.reset]

@[simp] theorem reset_bank (b : Bank) : State.reset.bank b = {} := by
  simp [State.bank, State.reset]

@[simp] theorem reset_chan (c : Chan) : State.reset.chan c = Channel.idle := by
  simp [State.chan, State.reset]

@[simp] theorem reset_chanActive (c : Chan) : State.reset.chanActive c = false := by
  simp [State.chanActive, Channel.idle, ChanState.isActive]

@[simp] theorem reset_drawer (d : DrawerIx) : State.reset.drawer d = {} := by
  simp [State.drawer, State.reset]

@[simp] theorem reset_port (p : Port) : State.reset.port p = {} := by
  simp [State.port, State.reset]

@[simp] theorem reset_due (c : Chan) : State.reset.link.due[c.index.val] = none := by
  simp [State.reset]

@[simp] theorem reset_exposureQ : State.reset.exposureQ = [] := rfl
@[simp] theorem reset_washQ : State.reset.washQ = [] := rfl
@[simp] theorem reset_dryerQ : State.reset.dryerQ = [] := rfl
@[simp] theorem reset_finisherQ : State.reset.finisherQ = [] := rfl
@[simp] theorem reset_transit : State.reset.transit = [] := rfl
@[simp] theorem reset_finisher : State.reset.finisher = {} := rfl

@[simp] theorem reset_waitList (l : WaitList) : State.reset.waitList l = [] := by cases l <;> rfl

@[simp] theorem reset_laneOf (i : Slot) : State.reset.laneOf i = none := by
  simp [State.laneOf, State.reset]

/-- Settles O12, field by field. -/
theorem resetLeavesThePowerOnState : Obligations.ResetLeavesThePowerOnState := by
  refine ⟨fun i => ⟨reset_plate i, by simp [Plate.cleared]⟩, fun t => ⟨reset_typeRec t, by simp [TypeRec.cleared]⟩, rfl,
    reset_waitList, rfl, rfl, reset_bank, fun c => ⟨?_, ?_, ?_, ?_, reset_due c⟩, rfl, rfl, reset_drawer, rfl,
    fun p => ⟨?_, ?_, ?_, ?_⟩, rfl⟩
  · simp [Channel.idle]
  · simp [Channel.idle]
  · simp [Channel.idle]
  · simp [State.stopAsserted, Channel.stopAsserted, Channel.idle, ChanState.isActive]
  · simp
  · simp
  · simp
  · simp [State.atn, Attention.atn]

theorem attentionOk_empty : AttentionOk {} := ⟨by simp, by simp, by simp, by simp, by simp⟩

theorem settingsOk_reset : SettingsOk State.reset := ⟨fun x => by cases x <;> decide, by decide, by decide⟩

theorem typesOk_reset : TypesOk State.reset := fun t => by simp [TypeRec.cleared]

theorem dosesOk_reset : DosesOk State.reset := fun i => by simp [Plate.cleared]

theorem platesOk_reset : PlatesOk State.reset := fun i => by
  constructor <;> simp [Plate.cleared, PlateState.usesType, PlateState.isWaiting, PlateState.isActive]

theorem lightInRange_reset : LightInRange State.reset :=
  ⟨fun c => by constructor <;> simp [Channel.idle], fun c => by simp, by simp [State.reset]⟩

theorem banksInRange_reset : BanksInRange State.reset := fun b => by constructor <;> simp

theorem massOk_reset : MassOk State.reset := by simp [MassOk, State.reset]

theorem solventOk_reset : SolventOk State.reset := by constructor <;> simp [State.reset]

theorem lightOk_reset : LightOk State.reset := by
  refine ⟨fun c => ?_, fun c => by simp, by simp [State.reset], fun c => by simp [Channel.idle],
    fun c d => by simp [Channel.idle]⟩
  rw [reset_chan]
  constructor <;> simp [Channel.idle, ChanState.isActive]

theorem phasesOk_reset : PhasesOk State.reset := by
  constructor <;> simp [Channel.idle]
  · decide
  · decide

theorem litOk_reset : LitOk State.reset := fun c => by simp [Channel.idle]

theorem located_reset : Located State.reset where
  staged := by simp [Plate.cleared]
  rushFirst := by simp
  exposed := by simp [Plate.cleared]
  washed := by simp [Plate.cleared]
  dried := by simp [Plate.cleared]
  washing := by simp [Plate.cleared]
  bed := ⟨by decide, fun _ => rfl⟩
  onFrame i := by simp [Plate.cleared]
  position := by simp
  finishing i := by simp [Plate.cleared]
  drawers d := by simp
  referenced i d := by simp [Plate.cleared]
  drying i := by simp [Plate.cleared]
  dry i d := by simp
  held i := by simp [Plate.cleared]
  pendingHold i := by simp [Plate.cleared]
  free i _ := reset_plate i

theorem dryTimesOk_reset : DryTimesOk State.reset := by constructor <;> simp [Plate.cleared, Plate.owesDrying]

/-- Settles O60, invariant by invariant. -/
theorem resetMeetsEveryInvariant : Obligations.ResetMeetsEveryInvariant :=
  ⟨fun p => by simpa using attentionOk_empty, settingsOk_reset, typesOk_reset, dosesOk_reset, platesOk_reset,
    lightInRange_reset, banksInRange_reset, massOk_reset, solventOk_reset, lightOk_reset, phasesOk_reset, litOk_reset,
    located_reset, dryTimesOk_reset⟩

end Sys2Proof.Machine
end

-- ==== Sys2Proof/Proofs/C ====
section
/-! What a step can do, said once. A granted command is refused and leaves the state, or is accepted and does one deed;
every other row but a power-on reset does a deed, or moves the ports alone. The invariants go through the deeds. -/

namespace Sys2Proof.Machine

/-! ### The deeds -/

/-- What changes a table without moving a plate: nothing, a type record, a configuration item, the dissolved mass, and
the timers and covers that only count or stand open. -/
inductive StoreDeed (s : State) : State → Prop
  | still : StoreDeed s s
  | clearType (t : Fin 16) : s.typeInUse t = false → StoreDeed s (s.setType t TypeRec.cleared)
  | storeType (t : Fin 16) (image : TypeImage) : s.typeInUse t = false → thicknessOk image.thickness.toNat = true →
      curveOk image.thickness.toNat image.curve = true → StoreDeed s (s.setType t image.unclamped.clamped)
  | storeItem (x : Item) (v : Nat) : StoreDeed s (s.storeItem x (s.configValue x v))
  | setMass (m : Nat) : m ≤ 65535 * s.item .tankL ∨ (∃ n ∈ s.solvent.mass, m ≤ n) →
      StoreDeed s (s.setMass m).evaluateGate
  | openDrawer (d : DrawerIx) : (s.drawer d).state = .drying →
      StoreDeed s (s.modDrawer d fun k => { k with state := .opened })
  | closeDrawer (d : DrawerIx) : (s.drawer d).state = .opened →
      StoreDeed s (s.modDrawer d fun k => { k with state := .drying })
  | drawerSecond (d : DrawerIx) : (s.drawer d).state = .drying → 1 < (s.drawer d).remaining →
      StoreDeed s (s.modDrawer d fun k => { k with remaining := k.remaining - 1 })
  | overdueSecond (i : Slot) : StoreDeed s { s with transit := s.transit.map fun e => e.tick i }

/-- What moves a plate from one location to another, or writes its record where it stands. -/
inductive PlateDeed (s : State) : State → Prop
  | stage (t : Fin 16) (lot : LotImage) (n : Nat) : n ≤ 16 → (s.typeRec t).valid = true → 1 ≤ lot.relief.toNat →
      lot.relief.toNat < (s.typeRec t).thickness → s.lotFits lot = true →
      PlateDeed s (s.stage (stagedPlate t (s.typeRec t) lot) (s.freeSlots.take n))
  | hold (i : Slot) (from_ : HeldFrom) : (s.plate i).state.asHeldFrom = some from_ →
      PlateDeed s ((s.leaveOwnList i).modPlate i fun p => p.heldFor .operator from_)
  | pend (i : Slot) : (s.plate i).state.isActive = true →
      PlateDeed s (s.modPlate i fun p => { p with holdPending := true })
  | release (i : Slot) (dest : HeldFrom) : (s.plate i).state = .held → (s.plate i).heldFrom = some dest →
      PlateDeed s ((s.modPlate i fun p => p.released dest.state).joinReleased i dest)
  | unpend (i : Slot) : PlateDeed s (s.modPlate i fun p => { p with holdPending := false })
  | scrap (i : Slot) : (s.plate i).state.isWaiting = true ∨ (s.plate i).state = .held →
      PlateDeed s ((s.leaveOwnList i).modPlate i fun p => p.released .scrapped)
  | purge (i : Slot) : (s.plate i).state = .done ∨ (s.plate i).state = .scrapped → s.referenced i = false →
      PlateDeed s (s.modPlate i fun _ => Plate.cleared)
  | loadWide (i : Slot) : s.frame.state = .empty → i ∈ s.exposureQ →
      PlateDeed s ((s.placeOnFrame i .both).bedLoaded (some i) (some i))
  | loadPair (i j : Slot) (behind : List Slot) : s.frame.state = .empty → s.exposureQ = i :: behind → j ∈ behind →
      PlateDeed s (((s.placeOnFrame i .a).placeOnFrame j .b).bedLoaded (some i) (some j))
  | loadOne (i : Slot) : s.frame.state = .empty → i ∈ s.exposureQ →
      PlateDeed s ((s.placeOnFrame i .a).bedLoaded (some i) none)
  | unload : s.frame.state = .faceEnd →
      PlateDeed s ((s.settleLane s.frame.laneA).settleLane s.frame.unloadLaneB).clearBed
  | undoLoad : s.frame.state = .loaded → PlateDeed s { s.undoLoad with frame := {} }
  | breakOffLoad : PlateDeed s s.breakOffLoad
  | claim (i : Slot) : s.solvent.gate = .opened → s.transit.length < 3 →
      (s.plate i).state = .exposed ∨ i ∈ s.washQ → PlateDeed s (s.claim i).1
  | washDone (i : Slot) : s.inTransit i = true → PlateDeed s (((s.leaveTransit i).book i).endWash i).evaluateGate
  | washFault (i : Slot) : s.inTransit i = true →
      PlateDeed s (((s.leaveTransit i).book i).holdAtStep i .washFault .exposed .W).evaluateGate
  | overdue (i : Slot) : s.transit.any (fun e => e.runsOut i) = true → PlateDeed s (s.overdueExpiry i)
  | loadDrawer (d : DrawerIx) (i : Slot) : (s.drawer d).state = .empty → (s.plate i).state = .washed ∨ i ∈ s.dryerQ →
      PlateDeed s (s.loadDrawer d i).1
  | unloadDrawer (d : DrawerIx) (i : Slot) : (s.drawer d).slot = some i → PlateDeed s (s.unloadDrawer d i)
  | dryExpiry (d : DrawerIx) : PlateDeed s (s.dryExpiry d)
  | loadFinisher (i : Slot) : s.finisher.state = .empty → (s.plate i).state = .dried ∨ i ∈ s.finisherQ →
      PlateDeed s (s.loadFinisher i).1
  | clearFinisher : s.finisher.slot = none → PlateDeed s s.clearFinisher
  | unloadFinisher (i : Slot) : s.finisher.slot = some i → PlateDeed s (s.settleFinished i).clearFinisher
  | undoFinish (i : Slot) : s.finisher.slot = some i → PlateDeed s { s.undoFinish i with finisher := {} }
  | breakOffFinish (i : Slot) : s.finisher.slot = some i → PlateDeed s (s.breakOffFinish i).clearFinisher

/-- What the lamp banks, the light channels and the sensor link do while no plate moves. -/
inductive LightDeed (s : State) : State → Prop
  | bankOn (b : Bank) : LightDeed s (s.bankOn b)
  | bankOff (b : Bank) : LightDeed s (s.bankOff b)
  | startBack : s.frame.state = .loaded → LightDeed s (s.setFrameState .backRun).startBackChannels.checkFramePhase
  | startFace : s.frame.state = .backEnd → LightDeed s (s.setFrameState .faceRun).startFaceChannels.checkFramePhase
  | startFinisher : s.finisher.state = .loaded →
      LightDeed s (State.startFinishing { s with finisher := { s.finisher with state := .running } }).checkFinishPhase
  | warmExpiry (b : Bank) : LightDeed s (s.warmExpiry b)
  | warmSecond (b : Bank) : LightDeed s (s.decrement (.warm b))
  | sampleDue (c : Chan) : LightDeed s (s.sampleDue c)
  | readStart : LightDeed s { s with link := s.link.begin }
  | readComplete (answer : Option Word) : LightDeed s (s.readComplete answer)

/-- What an accepted command or an event does. -/
inductive Deed (s t : State) : Prop
  | store (h : StoreDeed s t)
  | plate (h : PlateDeed s t)
  | light (h : LightDeed s t)

theorem Deed.still (s : State) : Deed s s := .store .still

/-! ### What each command answers -/

/-- A result that accepts the command: OK or CLAMPED (11.7.2). -/
def Result.accepts (r : Result) : Prop := r = .ok ∨ r = .clamped

theorem okOrClamped_accepts (b : Bool) : (okOrClamped b).accepts := by
  cases b
  · exact .inl rfl
  · exact .inr rfl

/-- A command is refused and leaves the state, or is accepted and does a deed. -/
inductive Answers (s : State) : State × Reply → Prop
  | refused (r : Result) : ¬ r.accepts → Answers s (refuse r s)
  | accepted (t : State) (r : Reply) : r.result.accepts → Deed s t → Answers s (t, r)

theorem Answers.refusal {s : State} {r : Result} (h : ¬ r.accepts := by simp [Result.accepts]) : Answers s (refuse r s) :=
  .refused r h

theorem Answers.ok {s t : State} {data : List Byte} (h : Deed s t) : Answers s (t, ⟨.ok, data⟩) := .accepted _ _ (.inl rfl) h

theorem Answers.plate {s t : State} {data : List Byte} (h : PlateDeed s t) : Answers s (t, ⟨.ok, data⟩) := .ok (.plate h)

theorem Answers.light {s t : State} {data : List Byte} (h : LightDeed s t) : Answers s (t, ⟨.ok, data⟩) := .ok (.light h)

theorem viaSlot_answers {s : State} {act : State → Slot → State × Reply} (h : ∀ i, Answers s (act s i)) (b : Byte) :
    Answers s (viaSlot b act s) := by
  unfold viaSlot
  split
  · exact h _
  · exact .refusal

theorem viaDrawer_answers {s : State} {act : State → DrawerIx → State × Reply} (h : ∀ d, Answers s (act s d)) (b : Byte) :
    Answers s (viaDrawer b act s) := by
  unfold viaDrawer
  split
  · exact h _
  · exact .refusal

theorem viaBank_answers {s : State} {act : State → Bank → State} (h : ∀ b, Deed s (act s b)) (p : Port) (code : Byte) :
    Answers s (viaBank p code act s) := by
  unfold viaBank
  split
  · exact .refusal
  · split
    · exact .refusal
    · exact .ok (h _)

theorem holdPlate_answers (s : State) (i : Slot) : Answers s (holdPlate s i) := by
  unfold holdPlate
  split
  next from_ h => exact .plate (.hold i from_ h)
  · split
    next h => exact .plate (.pend i h)
    · exact .refusal

theorem releasePlate_answers (s : State) (i : Slot) : Answers s (releasePlate s i) := by
  unfold releasePlate
  split
  next dest hs hf => exact .plate (.release i dest hs hf)
  · split
    · exact .plate (.unpend i)
    · exact .refusal

theorem scrapPlate_answers (s : State) (i : Slot) : Answers s (scrapPlate s i) := by
  unfold scrapPlate
  split
  next h => exact .plate (.scrap i (by simpa using h))
  · split <;> exact .refusal

theorem purgePlate_answers (s : State) (i : Slot) : Answers s (purgePlate s i) := by
  unfold purgePlate
  split
  next h =>
    split
    · exact .refusal
    next hr => exact .plate (.purge i (by simpa using h) (by simpa using hr))
  · exact .refusal

theorem writeTypeEffect_answers (ix : Byte) (image : TypeImage) (s : State) : Answers s (writeTypeEffect ix image s) := by
  unfold writeTypeEffect
  split
  · exact .refusal
  next t _ =>
    split
    · exact .refusal
    split
    · exact .refusal
    next hu =>
    have hu : s.typeInUse t = false := by simpa using hu
    split
    · exact .ok (.store (.clearType t hu))
    split
    · exact .refusal
    next ht =>
    split
    · exact .refusal
    next hc =>
    exact .accepted _ _ (okOrClamped_accepts _) (.store (.storeType t image hu (by simpa using ht) (by simpa using hc)))

theorem readTypeEffect_answers (ix : Byte) (s : State) : Answers s (readTypeEffect ix s) := by
  unfold readTypeEffect
  split
  · exact .refusal
  · exact .ok (.still s)

theorem stageLotEffect_answers (lot : LotImage) (s : State) : Answers s (stageLotEffect lot s) := by
  unfold stageLotEffect
  split
  · exact .refusal
  next hcopies =>
  split
  · exact .refusal
  split
  · exact .refusal
  next t _ =>
    dsimp only
    split
    · exact .refusal
    next hv =>
    split
    · exact .refusal
    next hr =>
    split
    · exact .refusal
    next hf =>
    split
    · exact .refusal
    have hr : 1 ≤ lot.relief.toNat ∧ lot.relief.toNat < (s.typeRec t).thickness := by
      simpa [Nat.one_le_iff_ne_zero] using hr
    exact .accepted _ _ (okOrClamped_accepts _)
      (.plate (.stage t lot _ (by omega) (by simpa using hv) hr.1 hr.2 (by simpa using hf)))

theorem setConfigEffect_answers (code : Byte) (value : Word) (s : State) : Answers s (setConfigEffect code value s) := by
  unfold setConfigEffect
  split
  · exact .refusal
  · exact .accepted _ _ (okOrClamped_accepts _) (.store (.storeItem _ _))

theorem readConfigEffect_answers (code : Byte) (s : State) : Answers s (readConfigEffect code s) := by
  unfold readConfigEffect
  split
  · exact .refusal
  · exact .ok (.still s)

theorem setLoadingEffect_answers (loading : Word) (s : State) : Answers s (setLoadingEffect loading s) :=
  .ok (.store (.setMass _ (.inl (Nat.mul_le_mul_right _ (Nat.le_of_lt_succ loading.isLt)))))

theorem solventChangeEffect_answers (s : State) : Answers s (solventChangeEffect s) :=
  .ok (.store (.setMass 0 (.inl (Nat.zero_le _))))

theorem replenishEffect_answers (litres : Word) (s : State) : Answers s (replenishEffect litres s) := by
  unfold replenishEffect
  split
  · exact .refusal
  next m hm => exact .accepted _ _ (okOrClamped_accepts _) (.store (.setMass _ (.inr ⟨m, hm, Nat.sub_le _ _⟩)))

theorem load_deed {s : State} {head : Slot} {behind : List Slot} (he : s.frame.state = .empty)
    (hq : s.exposureQ = head :: behind) (pair : Bool) : Answers s (s.load head behind pair) := by
  have hmem : head ∈ s.exposureQ := hq ▸ List.mem_cons_self ..
  unfold State.load
  split
  · exact .plate (.loadWide head he hmem)
  · split
    next mate hm =>
      have hmate : mate ∈ behind := by
        cases pair
        · cases hm
        · exact List.mem_of_mem_take (List.mem_of_find?_eq_some hm)
      exact .plate (.loadPair head mate behind he hq hmate)
    · exact .plate (.loadOne head he hmem)

theorem loadReqEffect_answers (mode : Byte) (s : State) : Answers s (loadReqEffect mode s) := by
  unfold loadReqEffect
  split
  · exact .refusal
  split
  · exact .refusal
  next he =>
  split
  · exact .refusal
  next head behind hq =>
    split
    · exact .refusal
    · exact load_deed (by simpa using he) hq _

theorem startBackEffect_answers (s : State) : Answers s (startBackEffect s) := by
  unfold startBackEffect
  split
  · exact .refusal
  next h =>
  split
  · exact .refusal
  · exact .light (.startBack (by simpa using h))

theorem startFaceEffect_answers (s : State) : Answers s (startFaceEffect s) := by
  unfold startFaceEffect
  split
  · exact .refusal
  next h =>
  split
  · exact .refusal
  · exact .light (.startFace (by simpa using h))

theorem unloadEffect_answers (s : State) : Answers s (unloadEffect s) := by
  unfold unloadEffect
  split
  · exact .refusal
  next h => exact .plate (.unload (by simpa using h))

theorem frameAbortEffect_answers (s : State) : Answers s (frameAbortEffect s) := by
  unfold frameAbortEffect
  split
  next h => exact .plate (.undoLoad h)
  · exact .plate .breakOffLoad
  · exact .plate .breakOffLoad
  · exact .plate .breakOffLoad
  · exact .refusal
  · exact .refusal

theorem washClaimEffect_answers (code : Byte) (s : State) : Answers s (washClaimEffect code s) := by
  have claimed (hu : s.solvent.gate ≠ .unknown) (hs : s.solvent.gate ≠ .spent) (hr : ¬ transitCapacity ≤ s.transit.length)
      (i : Slot) (hi : (s.plate i).state = .exposed ∨ i ∈ s.washQ) : Answers s (s.claim i) := by
    have ho : s.solvent.gate = .opened := by
      cases hg : s.solvent.gate
      · exact absurd hg hu
      · rfl
      · exact absurd hg hs
    exact .accepted _ _ (okOrClamped_accepts _) (.plate (.claim i ho (Nat.lt_of_not_le hr) hi))
  unfold washClaimEffect
  split
  · exact .refusal
  split
  · exact .refusal
  next hu =>
  split
  · exact .refusal
  next hs =>
  split
  · exact .refusal
  next hr =>
  split
  · exact .refusal
  · split
    · exact .refusal
    next i rest hq => exact claimed hu hs hr i (.inr (hq ▸ List.mem_cons_self ..))
  · split
    · exact .refusal
    next i h => exact claimed hu hs hr _ (.inl (by simpa using h))

theorem washDonePlate_answers (s : State) (i : Slot) : Answers s (washDonePlate s i) := by
  unfold washDonePlate
  split
  · exact .refusal
  next h =>
  split
  · exact .refusal
  · exact .plate (.washDone i (by simpa using h))

theorem washFaultPlate_answers (s : State) (i : Slot) : Answers s (washFaultPlate s i) := by
  unfold washFaultPlate
  split
  · exact .refusal
  next h => exact .plate (.washFault i (by simpa using h))

theorem drawerLoadAt_answers (code : Byte) (s : State) (d : DrawerIx) : Answers s (drawerLoadAt code s d) := by
  unfold drawerLoadAt
  split
  · exact .refusal
  · split
    · exact .refusal
    next he =>
    split
    · exact .refusal
    next i rest hq => exact .plate (.loadDrawer d i (by simpa using he) (.inr (hq ▸ List.mem_cons_self ..)))
  · split
    · exact .refusal
    next he =>
    split
    · exact .refusal
    next hs => exact .plate (.loadDrawer d _ (by simpa using he) (.inl (by simpa using hs)))

theorem drawerOpenAt_answers (s : State) (d : DrawerIx) : Answers s (drawerOpenAt s d) := by
  unfold drawerOpenAt
  split
  next h => exact .ok (.store (.openDrawer d h))
  · exact .ok (.still s)
  · exact .ok (.still s)
  · exact .refusal

theorem drawerCloseAt_answers (s : State) (d : DrawerIx) : Answers s (drawerCloseAt s d) := by
  unfold drawerCloseAt
  split
  next h => exact .ok (.store (.closeDrawer d h))
  · exact .ok (.still s)
  · exact .ok (.still s)
  · exact .ok (.still s)

theorem drawerUnloadAt_answers (s : State) (d : DrawerIx) : Answers s (drawerUnloadAt s d) := by
  unfold drawerUnloadAt
  split
  · exact .refusal
  · exact .refusal
  next i h _ => exact .plate (.unloadDrawer d i h)

theorem finishLoadEffect_answers (code : Byte) (s : State) : Answers s (finishLoadEffect code s) := by
  unfold finishLoadEffect
  split
  · exact .refusal
  · split
    · exact .refusal
    next he =>
    split
    · exact .refusal
    next i rest hq => exact .plate (.loadFinisher i (by simpa using he) (.inr (hq ▸ List.mem_cons_self ..)))
  · split
    · exact .refusal
    next he =>
    split
    · exact .refusal
    next hs => exact .plate (.loadFinisher _ (by simpa using he) (.inl (by simpa using hs)))

theorem finishStartEffect_answers (s : State) : Answers s (finishStartEffect s) := by
  unfold finishStartEffect
  split
  · exact .refusal
  next h =>
  split
  · exact .refusal
  · exact .light (.startFinisher (by simpa using h))

theorem finishUnloadEffect_answers (s : State) : Answers s (finishUnloadEffect s) := by
  unfold finishUnloadEffect
  split
  · exact .refusal
  · split
    next i h => exact .plate (.unloadFinisher i h)
    next h => exact .plate (.clearFinisher h)

theorem finishAbortEffect_answers (s : State) : Answers s (finishAbortEffect s) := by
  unfold finishAbortEffect
  split
  next i _ h => exact .plate (.undoFinish i h)
  next i _ h => exact .plate (.breakOffFinish i h)
  · exact .refusal

/-! ### The commands that wait at the arbiter -/

/-- The effect of a command that waits at the arbiter, when it is granted. -/
def effectOf : Instr → Option (State → State × Reply)
  | .readPlate _ slot => some (viaSlot slot readPlateEffect)
  | .readLine _ => some readLineEffect
  | .writeType ix image => some (writeTypeEffect ix image)
  | .readType ix => some (readTypeEffect ix)
  | .stageLot lot => some (stageLotEffect lot)
  | .hold slot => some (viaSlot slot holdPlate)
  | .release slot => some (viaSlot slot releasePlate)
  | .scrap slot => some (viaSlot slot scrapPlate)
  | .purge slot => some (viaSlot slot purgePlate)
  | .setConfig item value => some (setConfigEffect item value)
  | .readConfig item => some (readConfigEffect item)
  | .setLoading loading => some (setLoadingEffect loading)
  | .loadReq mode => some (loadReqEffect mode)
  | .bankOn p code => some (viaBank p code State.bankOn)
  | .bankOff p code => some (viaBank p code State.bankOff)
  | .startBack => some startBackEffect
  | .startFace => some startFaceEffect
  | .unload => some unloadEffect
  | .frameAbort => some frameAbortEffect
  | .washClaim code => some (washClaimEffect code)
  | .washDone slot => some (viaSlot slot washDonePlate)
  | .washFault slot => some (viaSlot slot washFaultPlate)
  | .replenish litres => some (replenishEffect litres)
  | .solventChange => some solventChangeEffect
  | .drawerLoad drawer code => some (viaDrawer drawer (drawerLoadAt code))
  | .drawerOpen drawer => some (viaDrawer drawer drawerOpenAt)
  | .drawerClose drawer => some (viaDrawer drawer drawerCloseAt)
  | .drawerUnload drawer => some (viaDrawer drawer drawerUnloadAt)
  | .finishLoad code => some (finishLoadEffect code)
  | .finishStart => some finishStartEffect
  | .finishAbort => some finishAbortEffect
  | .finishUnload => some finishUnloadEffect
  | _ => none

/-- The row of a command that waits at the arbiter is the grant of its effect. -/
theorem exec_of_effectOf {c : Instr} {f : State → State × Reply} (h : effectOf c = some f) (s : State) :
    ∃ p, commandPort c = some p ∧ exec c s = .next (grant p (frameBytes c) f s) := by
  cases c <;> cases h <;> exact ⟨_, rfl, rfl⟩

theorem effectOf_answers {c : Instr} {f : State → State × Reply} (h : effectOf c = some f) (s : State) :
    Answers s (f s) := by
  cases c <;> cases h
  case readPlate => exact viaSlot_answers (fun i => .ok (.still s)) _
  case readLine => exact .ok (.still s)
  case writeType => exact writeTypeEffect_answers ..
  case readType => exact readTypeEffect_answers ..
  case stageLot => exact stageLotEffect_answers ..
  case hold => exact viaSlot_answers (holdPlate_answers s) _
  case release => exact viaSlot_answers (releasePlate_answers s) _
  case scrap => exact viaSlot_answers (scrapPlate_answers s) _
  case purge => exact viaSlot_answers (purgePlate_answers s) _
  case setConfig => exact setConfigEffect_answers ..
  case readConfig => exact readConfigEffect_answers ..
  case setLoading => exact setLoadingEffect_answers ..
  case loadReq => exact loadReqEffect_answers ..
  case bankOn => exact viaBank_answers (fun b => .light (.bankOn b)) _ _
  case bankOff => exact viaBank_answers (fun b => .light (.bankOff b)) _ _
  case startBack => exact startBackEffect_answers s
  case startFace => exact startFaceEffect_answers s
  case unload => exact unloadEffect_answers s
  case frameAbort => exact frameAbortEffect_answers s
  case washClaim => exact washClaimEffect_answers ..
  case washDone => exact viaSlot_answers (washDonePlate_answers s) _
  case washFault => exact viaSlot_answers (washFaultPlate_answers s) _
  case replenish => exact replenishEffect_answers ..
  case solventChange => exact solventChangeEffect_answers s
  case drawerLoad => exact viaDrawer_answers (drawerLoadAt_answers _ s) _
  case drawerOpen => exact viaDrawer_answers (drawerOpenAt_answers s) _
  case drawerClose => exact viaDrawer_answers (drawerCloseAt_answers s) _
  case drawerUnload => exact viaDrawer_answers (drawerUnloadAt_answers s) _
  case finishLoad => exact finishLoadEffect_answers ..
  case finishStart => exact finishStartEffect_answers s
  case finishAbort => exact finishAbortEffect_answers s
  case finishUnload => exact finishUnloadEffect_answers s

/-- A granted command answers its effect. -/
theorem exec_of_granted {c : Instr} {f : State → State × Reply} {s : State} {p : Port} (h : effectOf c = some f)
    (hp : commandPort c = some p) (hg : Granted c s) : exec c s = .next (State.granted (f s) p) := by
  obtain ⟨q, hq, he⟩ := exec_of_effectOf h s
  obtain rfl : q = p := Option.some.inj (hq.symm.trans hp)
  rw [he, grant_of_grants]
  simpa [Granted, hp] using hg

/-- A frame that waits is not one whose last byte is due. -/
theorem not_completes_of_grants {s : State} {p : Port} {bytes bytes' : List Byte} (h : s.grants p bytes = true) :
    s.completes p bytes' = false := by
  obtain ⟨-, -, hf⟩ := (s.grants_iff p bytes).mp h
  cases hc : s.completes p bytes'
  · rfl
  · obtain ⟨-, -, -, hr⟩ := (s.completes_iff p bytes').mp hc
    rw [hf] at hr
    cases hr

/-- A row that waits at the arbiter in form alone, and is no arbiter command, does nothing. -/
theorem exec_of_granted_of_none {c : Instr} {s : State} (h : effectOf c = none) (hg : Granted c s) :
    exec c s = .next s := by
  have still {p : Port} {bytes : List Byte} (f : PortRec → PortRec) (hg : Granted c s) (hp : commandPort c = some p) :
      lastByte p bytes f s = s := by
    have hg : s.grants p (frameBytes c) = true := by simpa [Granted, hp] using hg
    exact lastByte_of_not_completes _ (not_completes_of_grants hg)
  cases c
  case arbiterWait | unknownCommand | wrongPortCommand =>
    exact congrArg Host.Outcome.next ((congrArg (ite _ · s) (still _ hg rfl)).trans (ite_self s))
  case readStatus | evtFreeze | evtTake | evtDone | portReset => exact congrArg _ (still _ hg rfl)
  case powerOnReset | selFall | selRise | warmTimerExpiry | dryTimerExpiry | overdueTimerExpiry | sampleDue
      | sensorReadStart | sensorReadComplete | byteArrival | timerDecrement | rstRise => exact absurd hg Bool.false_ne_true
  all_goals cases h

/-- Settles O24: a command that is not accepted is refused, and a refusal is its result alone. -/
theorem refusalChangesNothing : Obligations.RefusalChangesNothing := by
  intro c s t p result data hg hp he hf hok hclamped
  cases hc : effectOf c with
  | none =>
    rw [exec_of_granted_of_none hc hg] at he
    obtain rfl := Host.Outcome.next.inj he
    have hg : s.grants p (frameBytes c) = true := by simpa [Granted, hp] using hg
    obtain ⟨-, -, hw⟩ := (s.grants_iff p _).mp hg
    rw [hw] at hf
    cases hf
  | some f =>
    rw [exec_of_granted hc hp hg] at he
    obtain rfl := Host.Outcome.next.inj he
    have ha := effectOf_answers hc s
    generalize f s = r at ha hf
    cases ha with
    | refused r _ =>
      have : result = r.code := by simp [State.granted, State.replied, State.port, refuse, Reply.just] at hf; exact hf.1.symm
      rw [this]; rfl
    | accepted u r hr _ =>
      have : result = r.result.code := by simp [State.granted, State.replied, State.port] at hf; exact hf.1.symm
      rcases hr with hr | hr
      · exact absurd (by rw [this, hr]; rfl) hok
      · exact absurd (by rw [this, hr]; rfl) hclamped

end Sys2Proof.Machine
end

-- ==== Sys2Proof/Proofs/D ====
section
/-! The line: all of the state but the ports, the arbiter's pointer, RST and the model's own fields. A step that is no
power-on reset changes the line by a deed. -/

namespace Sys2Proof.Machine

/-- The state with the ports, the arbiter's pointer, RST and the model's own fields as after reset: what the invariants of
the plates, the light, the banks, the solvent and the configuration read. -/
def State.line (s : State) : State :=
  { s with rstLow := false, pointer := .P, ports := State.reset.ports, strayCount := 0, pending := [] }

@[simp] theorem line_modPort (s : State) (p : Port) (f : PortRec → PortRec) : (s.modPort p f).line = s.line := rfl

@[simp] theorem line_post (s : State) (p : Port) (e : Event) : (s.post p e).line = s.line := rfl

@[simp] theorem line_replied (s : State) (p : Port) (result : Byte) (data : List Byte) :
    (s.replied p result data).line = s.line := rfl

@[simp] theorem line_powerOn (s : State) : s.powerOn.line = State.reset.line := rfl

theorem Answers.deed {s : State} {r : State × Reply} (h : Answers s r) : Deed s r.1 := by
  cases h with
  | refused => exact .still s
  | accepted _ _ _ hd => exact hd

theorem grant_line {s : State} {p : Port} {bytes : List Byte} {f : State → State × Reply} (h : Answers s (f s)) :
    ∃ u, Deed s u ∧ (grant p bytes f s).line = u.line := by
  rcases grant_cases p bytes f s with ⟨-, he⟩ | ⟨-, he⟩
  · exact ⟨(f s).1, h.deed, by rw [he]; rfl⟩
  · exact ⟨s, .still s, by rw [he]⟩

theorem lastByte_line (p : Port) (bytes : List Byte) (f : PortRec → PortRec) (s : State) :
    (lastByte p bytes f s).line = s.line := by
  unfold lastByte
  split <;> rfl

theorem whileUp_line {s : State} {f : State → State} (h : Deed s (f s)) : ∃ u, Deed s u ∧ (whileUp f s).line = u.line := by
  unfold whileUp
  split
  · exact ⟨s, .still s, rfl⟩
  · exact ⟨f s, h, rfl⟩

theorem shiftByte_line (s : State) (p : Port) (b : Byte) : (s.shiftByte p b).line = s.line := by
  unfold State.shiftByte
  split
  · rfl
  · split <;> rfl

theorem decrement_deed (s : State) (timer : Timer) : Deed s (s.decrement timer) := by
  cases timer with
  | warm b => exact .light (.warmSecond b)
  | drawer d =>
    simp only [State.decrement]
    split
    next h => exact .store (.drawerSecond d h.1 h.2)
    · exact .still s
  | overdue i => exact .store (.overdueSecond i)

theorem overdueExpiry_deed (s : State) (i : Slot) : Deed s (s.overdueExpiry i) := by
  by_cases h : s.transit.any (fun e => e.runsOut i) = true
  · exact .plate (.overdue i h)
  · rw [State.overdueExpiry, if_neg h]
    exact .still s

/-- A row leaves the line as it was, changes it by a deed, or resets it. -/
theorem exec_line {c : Instr} {s t : State} (h : exec c s = .next t) :
    t.line = State.reset.line ∨ ∃ u, Deed s u ∧ t.line = u.line := by
  have same {u : State} (hu : u.line = s.line) (he : Host.Outcome.next u = (.next t : Host.Outcome State Fault Refusal)) :
      t.line = State.reset.line ∨ ∃ u, Deed s u ∧ t.line = u.line := by
    obtain rfl := Host.Outcome.next.inj he
    exact .inr ⟨s, .still s, hu⟩
  have event {f : State → State} (hd : Deed s (f s))
      (he : Host.Outcome.next (whileUp f s) = (.next t : Host.Outcome State Fault Refusal)) :
      t.line = State.reset.line ∨ ∃ u, Deed s u ∧ t.line = u.line := by
    obtain rfl := Host.Outcome.next.inj he
    exact .inr (whileUp_line hd)
  cases hc : effectOf c with
  | some f =>
    obtain ⟨p, -, he⟩ := exec_of_effectOf hc s
    obtain rfl := Host.Outcome.next.inj (he.symm.trans h)
    exact .inr (grant_line (effectOf_answers hc s))
  | none =>
    cases c
    case powerOnReset =>
      obtain rfl := Host.Outcome.next.inj h
      exact .inl rfl
    case rstRise => exact same (u := { s with rstLow := false }) rfl h
    case selFall p =>
      refine same ?_ h
      split
      · rfl
      · split <;> rfl
    case selRise p =>
      obtain rfl := Host.Outcome.next.inj h
      exact .inr ⟨s, .still s, rfl⟩
    case arbiterWait | unknownCommand | wrongPortCommand =>
      refine same ?_ h
      split
      · exact lastByte_line ..
      · rfl
    case readStatus | evtFreeze | evtTake | evtDone | portReset => exact same (lastByte_line ..) h
    case warmTimerExpiry b => exact event (.light (.warmExpiry b)) h
    case dryTimerExpiry d => exact event (.plate (.dryExpiry d)) h
    case overdueTimerExpiry i => exact event (overdueExpiry_deed s i) h
    case sampleDue c => exact event (.light (.sampleDue c)) h
    case sensorReadStart => exact event (.light .readStart) h
    case sensorReadComplete a => exact event (.light (.readComplete a)) h
    case timerDecrement timer => exact event (decrement_deed s timer) h
    case byteArrival p b =>
      refine same ?_ h
      unfold whileUp
      split
      · rfl
      · exact shiftByte_line ..
    all_goals cases hc

/-- A step leaves the line as it was, changes it by a deed, or resets it. -/
theorem step_line {s t : State} (h : step s = .next t) :
    t.line = State.reset.line ∨ ∃ s' u, s'.line = s.line ∧ Deed s' u ∧ t.line = u.line := by
  unfold step at h
  split at h
  · obtain rfl := Host.Outcome.next.inj h
    exact .inr ⟨s, s, rfl, .still s, rfl⟩
  next c rest _ =>
    refine (exec_line h).imp_right fun ⟨u, hd, hl⟩ => ⟨{ s with pending := rest }, u, rfl, hd, hl⟩

/-- An invariant of the line that holds after reset and that every deed keeps is kept by every step. -/
theorem step_keeps {Inv : State → Prop} (hline : ∀ {s t : State}, s.line = t.line → Inv s → Inv t)
    (hreset : Inv State.reset) {s t : State} (hdeed : ∀ {s' u : State}, s'.line = s.line → Deed s' u → Inv u)
    (h : step s = .next t) : Inv t := by
  rcases step_line h with hr | ⟨s', u, hs, hd, ht⟩
  · exact hline hr.symm hreset
  · exact hline ht.symm (hdeed hs hd)

end Sys2Proof.Machine
end

-- ==== Sys2Proof/Proofs/E ====
section
/-! Two relations that every operation is in, so that a fact about a deed is put together from facts about its parts:
a plate's record only grows older (its label stays, its marks stay set, its doses stay in range), and what the light does
moves no plate. -/

namespace Sys2Proof.Machine

/-! ### A plate's record, later -/

/-- What a plate's record keeps from its staging on: everything but its state, its place and what has been done to it. -/
def Plate.label (p : Plate) : Plate :=
  { Plate.cleared with
    typeIx := p.typeIx, lot := p.lot, copy := p.copy, rush := p.rush, width := p.width, length := p.length,
    nonimage := p.nonimage, relief := p.relief, trim := p.trim, floor := p.floor, backTarget := p.backTarget,
    faceTarget := p.faceTarget, mass := p.mass }

/-- No delivered dose of a record is above 2^48 − 1 (R4). -/
def Plate.dosed (p : Plate) : Prop :=
  p.backDelivered ≤ 2 ^ 48 - 1 ∧ p.faceDelivered ≤ 2 ^ 48 - 1 ∧ p.detackDelivered ≤ 2 ^ 48 - 1
    ∧ p.postDelivered ≤ 2 ^ 48 - 1

/-- A later record of the same plate: its label as it was, its marks still set (R7), its doses still in range (R4), and
its speed either as it was or one that the clamp of R55 gave. -/
structure Plate.Later (lo hi : Nat) (p q : Plate) : Prop where
  label : q.label = p.label
  marks : ∀ k, p.marks.has k = true → q.marks.has k = true
  doses : p.dosed → q.dosed
  speed : ∀ v ∈ q.speed, v ∈ p.speed ∨ ∃ raw, v = clampSpeed lo hi raw

section
variable {lo hi : Nat} {p q r : Plate}

theorem Plate.Later.refl (p : Plate) : Plate.Later lo hi p p := ⟨rfl, fun _ h => h, id, fun _ h => .inl h⟩

theorem Plate.Later.trans (h : Plate.Later lo hi p q) (k : Plate.Later lo hi q r) : Plate.Later lo hi p r :=
  ⟨k.label.trans h.label, fun m hm => k.marks m (h.marks m hm), fun hd => k.doses (h.doses hd),
    fun v hv => (k.speed v hv).elim (h.speed v) .inr⟩

theorem Marks.has_add (m : Marks) (j k : Mark) : (m.add j).has k = (m.has k || decide (k = j)) := by
  cases j <;> cases k <;> simp [Marks.add, Marks.has]

theorem Marks.has_addIf {m : Marks} {k : Mark} (b : Bool) (j : Mark) (h : m.has k = true) :
    (m.addIf b j).has k = true := by
  unfold Marks.addIf
  split
  · simp [Marks.has_add, h]
  · exact h

theorem Plate.Later.mark (p : Plate) (m : Mark) : Plate.Later lo hi p (p.mark m) :=
  ⟨rfl, fun k hk => by simp [Plate.mark, Marks.has_add, hk], id, fun _ h => .inl h⟩

theorem doseAdd_le (a b : Nat) : doseAdd a b ≤ 2 ^ 48 - 1 := Nat.min_le_left ..

theorem Plate.Later.addDose (p : Plate) (ph : Phase) (n : Nat) : Plate.Later lo hi p (p.addDose ph n) := by
  cases ph with
  | back => exact ⟨rfl, fun _ h => h, fun ⟨_, h⟩ => ⟨doseAdd_le .., h⟩, fun _ h => .inl h⟩
  | face => exact ⟨rfl, fun _ h => h, fun ⟨h, _, h'⟩ => ⟨h, doseAdd_le .., h'⟩, fun _ h => .inl h⟩
  | detack => exact ⟨rfl, fun _ h => h, fun ⟨h, h', _, h''⟩ => ⟨h, h', doseAdd_le .., h''⟩, fun _ h => .inl h⟩
  | post => exact ⟨rfl, fun _ h => h, fun ⟨h, h', h'', _⟩ => ⟨h, h', h'', doseAdd_le ..⟩, fun _ h => .inl h⟩

theorem Plate.Later.heldFor (p : Plate) (reason : HoldReason) (from_ : HeldFrom) :
    Plate.Later lo hi p (p.heldFor reason from_) := ⟨rfl, fun _ h => h, id, fun _ h => .inl h⟩

theorem Plate.Later.inState (p : Plate) (st : PlateState) : Plate.Later lo hi p (p.inState st) :=
  ⟨rfl, fun _ h => h, id, fun _ h => .inl h⟩

theorem Plate.Later.released (p : Plate) (st : PlateState) : Plate.Later lo hi p (p.released st) :=
  ⟨rfl, fun _ h => h, id, fun _ h => .inl h⟩

end

/-- Every plate's record is a later one, and no port's frame has moved. -/
structure Later (lo hi : Nat) (s t : State) : Prop where
  plates : ∀ i, Plate.Later lo hi (s.plate i) (t.plate i)
  frames : ∀ p, (t.port p).frame = (s.port p).frame

section
variable {lo hi : Nat} {s t u : State}

theorem Later.refl (s : State) : Later lo hi s s := ⟨fun _ => .refl _, fun _ => rfl⟩

theorem Later.trans (h : Later lo hi s t) (k : Later lo hi t u) : Later lo hi s u :=
  ⟨fun i => (h.plates i).trans (k.plates i), fun p => (k.frames p).trans (h.frames p)⟩

/-- A change of neither plates nor ports. -/
theorem Later.of_eq (hplates : t.plates = s.plates) (hports : t.ports = s.ports) : Later lo hi s t :=
  ⟨fun i => by rw [show t.plate i = s.plate i by simp only [State.plate, hplates]]; exact .refl _,
    fun p => by simp only [State.port, hports]⟩

/-- A change of one plate's record to a later one. -/
theorem Later.modPlate (i : Slot) {f : Plate → Plate} (h : Plate.Later lo hi (s.plate i) (f (s.plate i))) :
    Later lo hi s (s.modPlate i f) := by
  refine ⟨fun j => ?_, fun p => rfl⟩
  by_cases e : j = i
  · subst e; simpa using h
  · rw [State.plate_modPlate_ne _ _ e]; exact .refl _

@[simp] theorem frame_post (s : State) (p q : Port) (e : Event) : ((s.post p e).port q).frame = (s.port q).frame := by
  by_cases h : q = p
  · subst h; simp [State.post]
  · rw [State.post, State.port_modPort_ne _ _ h]

theorem Later.post (s : State) (p : Port) (e : Event) : Later lo hi s (s.post p e) :=
  ⟨fun _ => .refl _, fun q => frame_post s p q e⟩

theorem Later.announce (s : State) (l : WaitList) (b : Bool) : Later lo hi s (s.announce l b) := by
  cases b
  · exact .refl s
  · exact .post ..

theorem Later.setWaitList (s : State) (l : WaitList) (q : List Slot) : Later lo hi s (s.setWaitList l q) :=
  .of_eq (by simp) (by simp)

theorem Later.fillList (s : State) (l : WaitList) (q : List Slot) : Later lo hi s (s.fillList l q) :=
  (Later.setWaitList ..).trans (.announce ..)

theorem Later.leaveOwnList (s : State) (i : Slot) : Later lo hi s (s.leaveOwnList i) := by
  unfold State.leaveOwnList
  split
  · exact .setWaitList ..
  · exact .refl s

theorem Later.holdAtStep (s : State) (i : Slot) (reason : HoldReason) (from_ : HeldFrom) (p : Port) :
    Later lo hi s (s.holdAtStep i reason from_ p) :=
  ((Later.modPlate i (.heldFor ..)).trans (.post ..)).trans (.post ..)

/-- A change of the solvent account, the gate's evaluation, moves neither plates nor frames. -/
theorem Later.postSolvent (s : State) (n : Nat) : Later lo hi s (s.postSolvent n) := (Later.post ..).trans (.post ..)

theorem Later.setSolvent (s : State) (v : Solvent) : Later lo hi s { s with solvent := v } := .of_eq rfl rfl

theorem Later.evaluateWarn (s : State) (l : Nat) : Later lo hi s (s.evaluateWarn l) := by
  unfold State.evaluateWarn
  split
  · exact (Later.setSolvent ..).trans (.postSolvent ..)
  · split
    · exact .setSolvent ..
    · exact .refl s

theorem Later.evaluateGateState (s : State) (l : Nat) : Later lo hi s (s.evaluateGateState l) := by
  unfold State.evaluateGateState
  dsimp only
  split
  · exact .refl s
  · exact (Later.setSolvent ..).trans (.postSolvent ..)

theorem Later.evaluateGate (s : State) : Later lo hi s s.evaluateGate := by
  unfold State.evaluateGate
  split
  · exact .setSolvent ..
  · exact (Later.evaluateWarn ..).trans (.evaluateGateState ..)

end

/-! ### What the light does -/

/-- A record that light has fallen on: but for doses and marks it is as it was, and it is a later one. -/
structure Plate.Lit (p q : Plate) : Prop where
  record : q = { p with
    backDelivered := q.backDelivered, faceDelivered := q.faceDelivered, detackDelivered := q.detackDelivered,
    postDelivered := q.postDelivered, marks := q.marks }
  later : ∀ lo hi, Plate.Later lo hi p q

theorem Plate.Lit.refl (p : Plate) : Plate.Lit p p := ⟨rfl, fun _ _ => .refl p⟩

theorem Plate.Lit.trans {p q r : Plate} (h : Plate.Lit p q) (k : Plate.Lit q r) : Plate.Lit p r := by
  refine ⟨?_, fun lo hi => (h.later lo hi).trans (k.later lo hi)⟩
  have hk := k.record
  rw [h.record] at hk
  exact hk

theorem Plate.Lit.mark (p : Plate) (m : Mark) : Plate.Lit p (p.mark m) := ⟨rfl, fun _ _ => .mark ..⟩

theorem Plate.Lit.addDose (p : Plate) (ph : Phase) (n : Nat) : Plate.Lit p (p.addDose ph n) :=
  ⟨by cases ph <;> rfl, fun _ _ => .addDose ..⟩

section
variable {p q : Plate}

theorem Plate.Lit.state (h : Plate.Lit p q) : q.state = p.state := (congrArg Plate.state h.record :)
theorem Plate.Lit.rush (h : Plate.Lit p q) : q.rush = p.rush := (congrArg Plate.rush h.record :)
theorem Plate.Lit.lane (h : Plate.Lit p q) : q.lane = p.lane := (congrArg Plate.lane h.record :)
theorem Plate.Lit.drawer (h : Plate.Lit p q) : q.drawer = p.drawer := (congrArg Plate.drawer h.record :)
theorem Plate.Lit.holdPending (h : Plate.Lit p q) : q.holdPending = p.holdPending := (congrArg Plate.holdPending h.record :)
theorem Plate.Lit.holdReason (h : Plate.Lit p q) : q.holdReason = p.holdReason := (congrArg Plate.holdReason h.record :)
theorem Plate.Lit.heldFrom (h : Plate.Lit p q) : q.heldFrom = p.heldFrom := (congrArg Plate.heldFrom h.record :)
theorem Plate.Lit.dryRemaining (h : Plate.Lit p q) : q.dryRemaining = p.dryRemaining :=
  (congrArg Plate.dryRemaining h.record :)

end

/-- The state without what the light moves: plates, bed, banks, channels, link, finisher position and ports. -/
def State.unlit (s : State) : State :=
  { s with
    plates := State.reset.plates, frame := {}, banks := State.reset.banks, chans := State.reset.chans, link := {},
    finisher := {}, ports := State.reset.ports }

/-- The light has done something to the plates of P at most, and moved none: the lists, the drawers, the solvent account,
the types and the configuration are as they were, and so are the slots on the bed and in the finisher position. A channel
that counts is one that counted, or counts for a plate of P. -/
structure LightMove (P : Slot → Prop) (s t : State) : Prop where
  rest : t.unlit = s.unlit
  laneA : t.frame.laneA.slot = s.frame.laneA.slot
  laneB : t.frame.laneB.slot = s.frame.laneB.slot
  bed : t.frame.state = .empty ↔ s.frame.state = .empty
  position : t.finisher.slot = s.finisher.slot
  finisher : t.finisher.state = .empty ↔ s.finisher.state = .empty
  plates : ∀ i, Plate.Lit (s.plate i) (t.plate i)
  only : ∀ i, ¬ P i → t.plate i = s.plate i
  frames : ∀ p, (t.port p).frame = (s.port p).frame
  slots : ∀ c i, (t.chan c).slot = some i → (s.chan c).slot = some i ∨ P i
  active : ∀ c, t.chanActive c = true → s.chanActive c = true ∨ ∀ i, (t.chan c).slot = some i → P i

namespace LightMove
variable {P Q : Slot → Prop} {s t u : State} {c : Chan}

theorem refl (s : State) : LightMove P s s :=
  ⟨rfl, rfl, rfl, Iff.rfl, rfl, Iff.rfl, fun _ => .refl _, fun _ _ => rfl, fun _ => rfl, fun _ _ h => .inl h,
    fun _ h => .inl h⟩

theorem trans (h : LightMove P s t) (k : LightMove P t u) : LightMove P s u where
  rest := k.rest.trans h.rest
  laneA := k.laneA.trans h.laneA
  laneB := k.laneB.trans h.laneB
  bed := k.bed.trans h.bed
  position := k.position.trans h.position
  finisher := k.finisher.trans h.finisher
  plates i := (h.plates i).trans (k.plates i)
  only i hi := (k.only i hi).trans (h.only i hi)
  frames p := (k.frames p).trans (h.frames p)
  slots c i hi := (k.slots c i hi).elim (h.slots c i) .inr
  active c hc := by
    rcases k.active c hc with ha | ha
    · rcases h.active c ha with hb | hb
      · exact .inl hb
      · exact .inr fun i hi => (k.slots c i hi).elim (hb i) id
    · exact .inr ha

theorem later {lo hi : Nat} (h : LightMove P s t) : Later lo hi s t := ⟨fun i => (h.plates i).later lo hi, h.frames⟩

/-- The plates that a channel may count for are still plates of P. -/
theorem slots_mem (h : LightMove P s t) (hs : ∀ i, (s.chan c).slot = some i → P i) :
    ∀ i, (t.chan c).slot = some i → P i := fun i hi => (h.slots c i hi).elim (hs i) id

theorem active_mem (h : LightMove P s t) (hs : s.chanActive c = true → ∀ i, (s.chan c).slot = some i → P i) :
    t.chanActive c = true → ∀ i, (t.chan c).slot = some i → P i := fun hc =>
  (h.active c hc).elim (fun ha => h.slots_mem (hs ha)) id

theorem foldl {α : Type} {f : State → α → State} (l : List α)
    (hf : ∀ t, LightMove P s t → ∀ a ∈ l, LightMove P t (f t a)) :
    LightMove P s (l.foldl f s) := by
  suffices ∀ (l' : List α) (t : State), (∀ a ∈ l', a ∈ l) → LightMove P s t → LightMove P s (l'.foldl f t) from
    this l s (fun _ h => h) (refl s)
  intro l'
  induction l' with
  | nil => exact fun t _ ht => ht
  | cons a l' ih =>
    exact fun t hl ht => ih _ (fun b hb => hl b (List.mem_cons_of_mem _ hb))
      (ht.trans (hf t ht a (hl a (List.mem_cons_self ..))))

/-! ### The records that light moves -/

theorem post (s : State) (p : Port) (e : Event) : LightMove P s (s.post p e) :=
  ⟨rfl, rfl, rfl, Iff.rfl, rfl, Iff.rfl, fun _ => .refl _, fun _ _ => rfl, fun q => frame_post s p q e,
    fun _ _ h => .inl h, fun _ h => .inl h⟩

theorem setLink (s : State) (k : Link) : LightMove P s { s with link := k } :=
  ⟨rfl, rfl, rfl, Iff.rfl, rfl, Iff.rfl, fun _ => .refl _, fun _ _ => rfl, fun _ => rfl, fun _ _ h => .inl h,
    fun _ h => .inl h⟩

theorem modBank (s : State) (b : Bank) (f : BankRec → BankRec) : LightMove P s (s.modBank b f) :=
  ⟨rfl, rfl, rfl, Iff.rfl, rfl, Iff.rfl, fun _ => .refl _, fun _ _ => rfl, fun _ => rfl, fun _ _ h => .inl h,
    fun _ h => .inl h⟩

theorem setFrame {v : FrameUnit} (ha : v.laneA.slot = s.frame.laneA.slot) (hb : v.laneB.slot = s.frame.laneB.slot)
    (hs : v.state = .empty ↔ s.frame.state = .empty) : LightMove P s { s with frame := v } :=
  ⟨rfl, ha, hb, hs, rfl, Iff.rfl, fun _ => .refl _, fun _ _ => rfl, fun _ => rfl, fun _ _ h => .inl h, fun _ h => .inl h⟩

theorem setFinisher {v : Finisher} (hv : v.slot = s.finisher.slot) (hs : v.state = .empty ↔ s.finisher.state = .empty) :
    LightMove P s { s with finisher := v } :=
  ⟨rfl, rfl, rfl, Iff.rfl, hv, hs, fun _ => .refl _, fun _ _ => rfl, fun _ => rfl, fun _ _ h => .inl h, fun _ h => .inl h⟩

/-- A channel's record is changed: it names the plate that it named or one of P, and counts only if it counted or counts
for a plate of P. -/
theorem modChan {f : Channel → Channel}
    (hslot : ∀ i, (f (s.chan c)).slot = some i → (s.chan c).slot = some i ∨ P i)
    (hactive : (f (s.chan c)).state.isActive = true →
      (s.chan c).state.isActive = true ∨ ∀ i, (f (s.chan c)).slot = some i → P i) :
    LightMove P s (s.modChan c f) := by
  refine ⟨rfl, rfl, rfl, Iff.rfl, rfl, Iff.rfl, fun _ => .refl _, fun _ _ => rfl, fun _ => rfl, fun d => ?_, fun d => ?_⟩
  · by_cases h : d = c
    · subst h; simpa using hslot
    · rw [State.chan_modChan_ne _ _ h]; exact fun _ => .inl
  · unfold State.chanActive
    by_cases h : d = c
    · subst h; simpa using hactive
    · rw [State.chan_modChan_ne _ _ h]; exact .inl

/-- A change that leaves a channel's slot, and does not set it counting. -/
theorem modChan_still {f : Channel → Channel} (hslot : (f (s.chan c)).slot = (s.chan c).slot)
    (hactive : (f (s.chan c)).state.isActive = true → (s.chan c).state.isActive = true) :
    LightMove P s (s.modChan c f) :=
  modChan (fun _ hi => .inl (hslot ▸ hi)) fun h => .inl (hactive h)

theorem modPlateOpt {o : Option Slot} {f : Plate → Plate} (ho : ∀ i, o = some i → P i) (hf : ∀ p, Plate.Lit p (f p)) :
    LightMove P s (s.modPlate? o f) := by
  cases o with
  | none => exact refl s
  | some i =>
    refine ⟨rfl, rfl, rfl, Iff.rfl, rfl, Iff.rfl, fun j => ?_, fun j hj => ?_, fun _ => rfl, fun _ _ h => .inl h,
      fun _ h => .inl h⟩
    · by_cases h : j = i
      · subst h; simpa [State.modPlate?] using hf _
      · rw [State.modPlate?, State.plate_modPlate_ne _ _ h]; exact .refl _
    · exact State.plate_modPlate_ne _ _ fun h => hj (h ▸ ho i rfl)

/-! ### The operations of the light -/

theorem withdraw (s : State) (c : Chan) : LightMove P s (s.withdraw c) := (setLink ..).trans (modChan_still rfl id)

theorem stopChan (s : State) (res : StopResult) (c : Chan) : LightMove P s (s.stopChan res c) :=
  (withdraw ..).trans (modChan_still rfl (fun h => by simp [ChanState.isActive] at h))

theorem failChan (s : State) (c : Chan) : LightMove P s (s.failChan c) :=
  (withdraw ..).trans (modChan_still rfl (fun h => by simp [ChanState.isActive] at h))

theorem idleChan (s : State) (c : Chan) : LightMove P s (s.idleChan c) :=
  modChan (fun i hi => by cases hi) (fun h => by simp [Channel.idle, ChanState.isActive] at h)

theorem pauseChan (s : State) (c : Chan) : LightMove P s (s.pauseChan c) := by
  unfold State.pauseChan
  split
  next h =>
    refine (withdraw ..).trans (modChan_still rfl fun _ => ?_)
    have h : (s.chan c).state = .running := by simpa using h
    change (((State.withdraw s c).chan c).state).isActive = true
    simp only [State.withdraw, State.chan_modChan_self]
    exact congrArg ChanState.isActive h
  · exact refl s

theorem resumeChan (s : State) (c : Chan) : LightMove P s (s.resumeChan c) := by
  unfold State.resumeChan
  split
  next h =>
    have h : (s.chan c).state = .paused := by simpa using h
    exact modChan_still rfl fun _ => by rw [h]; rfl
  · exact refl s

theorem fallDue (s : State) (c : Chan) : LightMove P s (s.fallDue c) := (setLink ..).trans (modChan_still rfl id)

theorem endRead (s : State) (r : LinkRead) (answer : Option Word) : LightMove P s (s.endRead r answer) :=
  (setLink ..).trans (modChan_still rfl id)

theorem deliver (h : ∀ i, (s.chan c).slot = some i → P i) (n : Nat) : LightMove P s (s.deliver c n) :=
  modPlateOpt h fun _ => .addDose ..

theorem markPlate (h : ∀ i, (s.chan c).slot = some i → P i) (m : Mark) : LightMove P s (s.markPlate c m) :=
  modPlateOpt h fun _ => .mark ..

theorem postStop (s : State) (c : Chan) (code : Nat) : LightMove P s (s.postStop c code) := post ..

theorem learnReference (s : State) (b : Bank) (a e : Nat) : LightMove P s (s.learnReference b a e) := by
  unfold State.learnReference
  split
  · exact modBank ..
  · exact refl s

theorem noteShort (s : State) (c : Chan) : LightMove P s (s.noteShort c) := by
  unfold State.noteShort
  split
  next l _ => cases l <;> exact setFrame rfl rfl Iff.rfl
  · exact setFinisher rfl Iff.rfl

theorem noteFailure (s : State) (c : Chan) : LightMove P s (s.noteFailure c) := by
  unfold State.noteFailure
  split
  next l _ => cases l <;> exact setFrame rfl rfl Iff.rfl
  · exact setFinisher rfl Iff.rfl

theorem setFrameState {st : FrameState} (hs : s.frame.state ≠ .empty) (ht : st ≠ .empty) :
    LightMove P s (s.setFrameState st) := setFrame rfl rfl ⟨fun h => absurd h ht, fun h => absurd h hs⟩

theorem checkFramePhase (s : State) : LightMove P s s.checkFramePhase := by
  unfold State.checkFramePhase
  split
  next h =>
    split
    · exact refl s
    · exact (setFrameState (by simp [h]) (by simp)).trans (post ..)
  next h =>
    split
    · exact refl s
    · exact (setFrameState (by simp [h]) (by simp)).trans (post ..)
  all_goals exact refl s

theorem checkFinishPhase (s : State) : LightMove P s s.checkFinishPhase := by
  unfold State.checkFinishPhase
  split
  next h =>
    split
    · exact refl s
    · exact (setFinisher (v := { s.finisher with state := .ended }) rfl (by simp [h])).trans (post ..)
  all_goals exact refl s

theorem checkPhase (s : State) (c : Chan) : LightMove P s (s.checkPhase c) := by
  unfold State.checkPhase
  split
  · exact checkFramePhase s
  · exact checkFinishPhase s

theorem stopReached (h : ∀ i, (s.chan c).slot = some i → P i) : LightMove P s (s.stopReached c) := by
  have hstop : LightMove P s ((s.runOf c).foldl (fun t d => t.stopChan .reached d) s) :=
    foldl _ fun t _ d _ => stopChan t _ d
  exact ((hstop.trans (deliver (hstop.slots_mem h) _)).trans (learnReference ..)).trans (postStop ..)

theorem stopTimeLimit (h : ∀ i, (s.chan c).slot = some i → P i) : LightMove P s (s.stopTimeLimit c) := by
  have hstop : LightMove P s ((s.runOf c).foldl (fun t d => t.stopChan .timeLimit d) s) :=
    foldl _ fun t _ d _ => stopChan t _ d
  have hdel := hstop.trans (deliver (hstop.slots_mem h) (s.runAccumulator c))
  have hmark := hdel.trans (markPlate (hdel.slots_mem h) .doseShort)
  exact (hmark.trans (postStop ..)).trans (foldl _ fun t _ d _ => noteShort t d)

theorem failRun (h : ∀ i, (s.chan c).slot = some i → P i) : LightMove P s (s.failRun c) := by
  have hstop : LightMove P s ((s.runOf c).foldl State.failChan s) := foldl _ fun t _ d _ => failChan t d
  have hdel := hstop.trans (deliver (hstop.slots_mem h) (s.runAccumulator c))
  have hmark := hdel.trans (markPlate (hdel.slots_mem h) .sensorFail)
  exact (hmark.trans (postStop ..)).trans (foldl _ fun t _ d _ => noteFailure t d)

theorem abortRun (h : s.chanActive c = true → ∀ i, (s.chan c).slot = some i → P i) : LightMove P s (s.abortRun c) := by
  unfold State.abortRun
  split
  next ha =>
    have hstop : LightMove P s ((s.runOf c).foldl (fun t d => t.stopChan .aborted d) s) :=
      foldl _ fun t _ d _ => stopChan t _ d
    exact hstop.trans (deliver (hstop.slots_mem (h ha)) _)
  · exact refl s

theorem modChan_started {i : Slot} (hi : P i) (s : State) (c : Chan) (partner : Option Chan) (need : Int)
    (limit ts : Nat) : LightMove P s (s.modChan c fun _ => startedChannel i partner need limit ts) :=
  modChan (fun j hj => .inr (by cases hj; exact hi)) fun _ => .inr fun j hj => by cases hj; exact hi

theorem startSingle {i : Slot} (hi : P i) (s : State) (c : Chan) (need : Int) (limit : Nat) :
    LightMove P s (s.startSingle c i need limit) := by
  unfold State.startSingle
  have ht := modChan_started hi s c none need limit s.intervalNow
  dsimp only
  split
  · exact ht
  · refine ht.trans (stopReached fun j hj => ?_)
    rw [State.chan_modChan_self] at hj
    cases hj
    exact hi

theorem startPair {i : Slot} (hi : P i) (s : State) {c d : Chan} (hcd : c ≠ d) (need : Int) (limit : Nat) :
    LightMove P s (s.startPair c d i need limit) := by
  unfold State.startPair
  have ht := (modChan_started hi s c (some d) need limit s.intervalNow).trans
    (modChan_started hi _ d (some c) need limit s.intervalNow)
  dsimp only
  split
  · exact ht
  · refine ht.trans (stopReached fun j hj => ?_)
    rw [State.chan_modChan_ne _ _ hcd, State.chan_modChan_self] at hj
    cases hj
    exact hi

theorem startBackLane {lane : Lane} (h : ∀ i, lane.slot = some i → P i) (s : State) (c : Chan) :
    LightMove P s (s.startBackLane c lane) := by
  unfold State.startBackLane
  split
  next i hi => exact startSingle (h i hi) ..
  · exact refl s

theorem startFaceLane {lane : Lane} (h : ∀ i, lane.slot = some i → P i) (s : State) (c : Chan) :
    LightMove P s (s.startFaceLane c lane) := by
  unfold State.startFaceLane
  split
  next i hi =>
    split
    · exact refl s
    · exact startSingle (h i hi) ..
  · exact refl s

theorem startBackChannels (ha : ∀ i, s.frame.laneA.slot = some i → P i) (hb : ∀ i, s.frame.laneB.slot = some i → P i) :
    LightMove P s s.startBackChannels := by
  unfold State.startBackChannels
  split
  · split
    next i hi => exact startPair (ha i hi) s (by decide) _ _
    · exact refl s
  · exact (startBackLane ha ..).trans (startBackLane hb ..)

theorem startFaceChannels (ha : ∀ i, s.frame.laneA.slot = some i → P i) (hb : ∀ i, s.frame.laneB.slot = some i → P i) :
    LightMove P s s.startFaceChannels := by
  unfold State.startFaceChannels
  split
  · split
    next i hi =>
      split
      · exact refl s
      · exact startPair (ha i hi) s (by decide) _ _
    · exact refl s
  · exact (startFaceLane ha ..).trans (startFaceLane hb ..)

theorem startFinishing (h : ∀ i, s.finisher.slot = some i → P i) : LightMove P s s.startFinishing := by
  unfold State.startFinishing
  split
  next i hi => exact (startSingle (h i hi) ..).trans (startSingle (h i hi) ..)
  · exact refl s

theorem testRun (h : ∀ i, (s.chan c).slot = some i → P i) : LightMove P s (s.testRun c) := by
  unfold State.testRun
  split
  · exact (stopReached h).trans (checkPhase ..)
  · split
    · exact (stopTimeLimit h).trans (checkPhase ..)
    · exact refl s

theorem creditSample (h : ∀ i, (s.chan c).slot = some i → P i) (reading ts : Nat) :
    LightMove P s (s.creditSample c reading ts) := by
  have hk : LightMove P s (s.modChan c fun k =>
      { k with accumulator := doseAdd k.accumulator (reading * ts), elapsed := k.elapsed + ts }) := modChan_still rfl id
  exact hk.trans (testRun (hk.slots_mem h))

theorem goodSample (h : ∀ i, (s.chan c).slot = some i → P i) (reading ts : Nat) :
    LightMove P s (s.goodSample c reading ts) := by
  unfold State.goodSample
  have hk : LightMove P s (s.modChan c fun k => { k with lastGood := reading, badCount := 0 }) := modChan_still rfl id
  dsimp only
  split
  · have hm := hk.trans (markPlate (hk.slots_mem h) .sensorSat)
    exact hm.trans (creditSample (hm.slots_mem h) ..)
  · exact hk.trans (creditSample (hk.slots_mem h) ..)

theorem badSample (h : ∀ i, (s.chan c).slot = some i → P i) (ts : Nat) : LightMove P s (s.badSample c ts) := by
  unfold State.badSample
  have hk : LightMove P s (s.modChan c fun k => { k with badCount := k.badCount + 1 }) := modChan_still rfl id
  dsimp only
  split
  · exact hk.trans (creditSample (hk.slots_mem h) ..)
  · exact (hk.trans (failRun (hk.slots_mem h))).trans (checkPhase ..)

theorem creditRead {r : LinkRead} (h : (s.chan r.chan).state = .running → ∀ i, (s.chan r.chan).slot = some i → P i)
    (answer : Option Word) : LightMove P s (s.creditRead r answer) := by
  unfold State.creditRead
  split
  next hr =>
    have hr : r.live = true ∧ (s.chan r.chan).state = .running := by simpa using hr
    cases answer with
    | some v => exact goodSample (h hr.2) ..
    | none => exact badSample (h hr.2) ..
  · exact refl s

theorem readComplete (h : ∀ c i, s.chanActive c = true → (s.chan c).slot = some i → P i) (answer : Option Word) :
    LightMove P s (s.readComplete answer) := by
  unfold State.readComplete
  split
  next r _ =>
    have he : LightMove P s (s.endRead r answer) := endRead ..
    refine he.trans (creditRead (fun hr => ?_) answer)
    exact he.active_mem (fun ha i => h _ i ha) (congrArg ChanState.isActive hr)
  · exact refl s

theorem sampleDue (s : State) (c : Chan) : LightMove P s (s.sampleDue c) := by
  unfold State.sampleDue
  split
  · exact foldl _ fun t _ d _ => fallDue t d
  · exact refl s

theorem bankBecomesReady (s : State) (b : Bank) : LightMove P s (s.bankBecomesReady b) :=
  ((modBank ..).trans (post ..)).trans (foldl _ fun t _ d _ => resumeChan t d)

theorem bankOn (s : State) (b : Bank) : LightMove P s (s.bankOn b) := by
  unfold State.bankOn
  split
  · split
    · exact bankBecomesReady ..
    · exact modBank ..
  · exact refl s
  · exact refl s

theorem bankOff (s : State) (b : Bank) : LightMove P s (s.bankOff b) :=
  (modBank ..).trans (foldl _ fun t _ d _ => pauseChan t d)

theorem warmExpiry (s : State) (b : Bank) : LightMove P s (s.warmExpiry b) := by
  unfold State.warmExpiry
  split
  · exact bankBecomesReady ..
  · exact refl s

theorem warmSecond (s : State) (b : Bank) : LightMove P s (s.decrement (.warm b)) := by
  simp only [State.decrement]
  split
  · exact modBank ..
  · exact refl s

end LightMove

/-- The plates that light may fall on: those of the bed, of the finisher position and of the channels that count. -/
def State.inLight (s : State) (i : Slot) : Prop :=
  s.frame.laneA.slot = some i ∨ s.frame.laneB.slot = some i ∨ s.finisher.slot = some i
    ∨ ∃ c, s.chanActive c = true ∧ (s.chan c).slot = some i

/-- What the light does touches only plates in the light, and moves none. -/
theorem LightDeed.lightMove {s t : State} (h : LightDeed s t) : LightMove s.inLight s t := by
  have ha : ∀ i, s.frame.laneA.slot = some i → s.inLight i := fun _ => .inl
  have hb : ∀ i, s.frame.laneB.slot = some i → s.inLight i := fun _ h => .inr (.inl h)
  have hf : ∀ i, s.finisher.slot = some i → s.inLight i := fun _ h => .inr (.inr (.inl h))
  cases h with
  | bankOn b => exact .bankOn s b
  | bankOff b => exact .bankOff s b
  | startBack h =>
    have hs : LightMove s.inLight s (s.setFrameState .backRun) := .setFrameState (by simp [h]) (by simp)
    exact (hs.trans (.startBackChannels ha hb)).trans (.checkFramePhase _)
  | startFace h =>
    have hs : LightMove s.inLight s (s.setFrameState .faceRun) := .setFrameState (by simp [h]) (by simp)
    exact (hs.trans (.startFaceChannels ha hb)).trans (.checkFramePhase _)
  | startFinisher h =>
    exact ((LightMove.setFinisher (v := { s.finisher with state := .running }) rfl (by simp [h])).trans
      (.startFinishing hf)).trans (.checkFinishPhase _)
  | warmExpiry b => exact .warmExpiry s b
  | warmSecond b => exact .warmSecond s b
  | sampleDue c => exact .sampleDue s c
  | readStart => exact .setLink ..
  | readComplete a => exact .readComplete (fun c i hc hi => .inr (.inr (.inr ⟨c, hc, hi⟩))) a

end Sys2Proof.Machine
end

-- ==== Sys2Proof/Proofs/F ====
section
/-! Every deed but PURGE and STAGE_LOT leaves each slot with a later record of its plate; those two clear and fill slots.
So marks stay set and doses stay in range, and no deed moves a port's frame. -/

namespace Sys2Proof.Machine

section
variable {lo hi : Nat} {s t : State}

/-! ### Operations of the plate moves -/

theorem Later.foldl {α : Type} {f : State → α → State} (hf : ∀ t a, Later lo hi t (f t a)) (l : List α) (s : State) :
    Later lo hi s (l.foldl f s) := by
  induction l generalizing s with
  | nil => exact .refl s
  | cons a l ih => exact (hf s a).trans (ih _)

theorem Later.idleChan (s : State) (c : Chan) : Later lo hi s (s.idleChan c) := .of_eq rfl rfl

theorem Later.abortRun (s : State) (c : Chan) : Later lo hi s (s.abortRun c) :=
  (LightMove.abortRun (P := fun _ => True) fun _ _ _ => trivial).later

theorem Later.offLane (s : State) (i : Slot) : Later lo hi s (s.offLane i) :=
  .modPlate i ⟨rfl, fun _ h => h, id, fun _ h => .inl h⟩

theorem Later.joinTail (s : State) (l : WaitList) (i : Slot) : Later lo hi s (s.joinTail l i) := .fillList ..

theorem Later.inState (s : State) (i : Slot) (st : PlateState) : Later lo hi s (s.modPlate i fun p => p.inState st) :=
  .modPlate i (.inState ..)

theorem Later.leaveList (s : State) (l : WaitList) (i : Slot) : Later lo hi s (s.leaveList l i) := .setWaitList ..

theorem Later.joinReleased (s : State) (i : Slot) (dest : HeldFrom) : Later lo hi s (s.joinReleased i dest) := by
  cases dest
  case done => exact .refl s
  all_goals exact .fillList ..

theorem Later.placeOnFrame (s : State) (i : Slot) (lane : LanePlace) : Later lo hi s (s.placeOnFrame i lane) :=
  (Later.leaveList ..).trans (.modPlate i ⟨rfl, fun _ h => h, id, fun _ h => .inl h⟩)

theorem Later.bedLoaded (s : State) (a b : Option Slot) : Later lo hi s (s.bedLoaded a b) := .of_eq rfl rfl

theorem Later.settleUnloaded (s : State) (i : Slot) (lane : Lane) : Later lo hi s (s.settleUnloaded i lane) := by
  unfold State.settleUnloaded
  split
  · exact (Later.offLane ..).trans (.holdAtStep ..)
  split
  · exact (Later.offLane ..).trans (.holdAtStep ..)
  split
  · exact (Later.offLane ..).trans (.holdAtStep ..)
  · exact ((Later.offLane ..).trans (.inState ..)).trans (.joinTail ..)

theorem Later.settleLane (s : State) (lane : Lane) : Later lo hi s (s.settleLane lane) := by
  unfold State.settleLane
  split
  · exact .settleUnloaded ..
  · exact .refl s

theorem Later.clearBed (s : State) : Later lo hi s s.clearBed := .of_eq rfl rfl

theorem Later.undoLane (s : State) (ahead : Option Slot) (i : Slot) : Later lo hi s (s.undoLane ahead i) := by
  unfold State.undoLane
  split
  · exact (Later.offLane ..).trans (.holdAtStep ..)
  · exact ((Later.offLane ..).trans (.inState ..)).trans (.fillList ..)

theorem Later.undoLoad (s : State) : Later lo hi s s.undoLoad := by
  unfold State.undoLoad
  split
  · exact .refl s
  · exact .undoLane ..
  · exact (Later.undoLane ..).trans (.undoLane ..)

theorem Later.breakOffLoad (s : State) : Later lo hi s s.breakOffLoad :=
  ((Later.foldl (fun t c => .abortRun t c) _ s).trans
    (Later.foldl (fun t i => (Later.offLane t i).trans (.holdAtStep ..)) _ _)).trans (.clearBed _)

theorem Later.setTransit (s : State) (l : List TransitEntry) : Later lo hi s { s with transit := l } := .of_eq rfl rfl

theorem Later.claim (s : State) (i : Slot) : Later (s.item .vMin) (s.item .vMax) s (s.claim i).1 := by
  have hp : Later (s.item .vMin) (s.item .vMax) s ((s.leaveList .wash i).modPlate i fun p =>
      { p with
        state := .washing
        speed := some (clampSpeed (s.item .vMin) (s.item .vMax) (s.speedFor i))
        marks := (p.marks.addIf (decide (s.speedFor i < s.item .vMin)) .washShort).addIf
          (decide (s.item .vMax < s.speedFor i)) .washLong }) :=
    (Later.leaveList ..).trans (.modPlate i ⟨rfl, fun _ h => Marks.has_addIf _ _ (Marks.has_addIf _ _ h), id,
      fun v hv => .inr ⟨s.speedFor i, by simpa using hv.symm⟩⟩)
  exact hp.trans (.setTransit ..)

theorem Later.leaveTransit (s : State) (i : Slot) : Later lo hi s (s.leaveTransit i) := .of_eq rfl rfl

theorem Later.book (s : State) (i : Slot) : Later lo hi s (s.book i) := by
  unfold State.book
  split
  · exact .refl s
  · exact (Later.setSolvent ..).trans (.modPlate i ⟨rfl, fun _ h => h, id, fun _ h => .inl h⟩)

theorem Later.endWash (s : State) (i : Slot) : Later lo hi s (s.endWash i) := by
  unfold State.endWash
  split
  · exact .holdAtStep ..
  · exact (Later.inState ..).trans (.joinTail ..)

theorem Later.overdueExpiry (s : State) (i : Slot) : Later lo hi s (s.overdueExpiry i) := by
  unfold State.overdueExpiry
  split
  · exact ((Later.setTransit ..).trans (.modPlate i (.mark ..))).trans (.post ..)
  · exact .refl s

theorem Later.modDrawer (s : State) (d : DrawerIx) (f : Drawer → Drawer) : Later lo hi s (s.modDrawer d f) :=
  .of_eq rfl rfl

theorem Later.loadDrawer (s : State) (d : DrawerIx) (i : Slot) : Later lo hi s (s.loadDrawer d i).1 := by
  have hp : Later lo hi s ((s.leaveList .dryer i).modPlate i fun p => { p with state := .drying, drawer := some d }) :=
    (Later.leaveList ..).trans (.modPlate i ⟨rfl, fun _ h => h, id, fun _ h => .inl h⟩)
  simp only [State.loadDrawer]
  exact hp.trans (.modDrawer ..)

theorem Later.emptyDrawer (s : State) (d : DrawerIx) (i : Slot) : Later lo hi s (s.emptyDrawer d i) :=
  (Later.modPlate i ⟨rfl, fun _ h => h, id, fun _ h => .inl h⟩).trans (.modDrawer ..)

theorem Later.setDryRemaining (s : State) (i : Slot) (n : Nat) :
    Later lo hi s (s.modPlate i fun p => { p with dryRemaining := n }) :=
  .modPlate i ⟨rfl, fun _ h => h, id, fun _ h => .inl h⟩

theorem Later.unloadDrawer (s : State) (d : DrawerIx) (i : Slot) : Later lo hi s (s.unloadDrawer d i) := by
  unfold State.unloadDrawer
  split
  · exact .emptyDrawer ..
  · exact ((Later.setDryRemaining ..).trans (.emptyDrawer ..)).trans (.holdAtStep ..)
  · exact ((Later.setDryRemaining ..).trans (.emptyDrawer ..)).trans (.holdAtStep ..)
  · exact .refl s

theorem Later.endDrying (s : State) (i : Slot) : Later lo hi s (s.endDrying i) := by
  unfold State.endDrying
  split
  · exact .holdAtStep ..
  · exact (Later.inState ..).trans (.joinTail ..)

theorem Later.dryExpiry (s : State) (d : DrawerIx) : Later lo hi s (s.dryExpiry d) := by
  unfold State.dryExpiry
  split
  · split
    · exact (((Later.modDrawer ..).trans (.setDryRemaining ..)).trans (.post ..)).trans (.endDrying ..)
    · exact .refl s
  · exact .refl s

theorem Later.clearReference (s : State) (i : Slot) : Later lo hi s (s.clearReference i) := by
  unfold State.clearReference
  split
  · exact .emptyDrawer ..
  · exact .refl s

theorem Later.setFinisher (s : State) (v : Finisher) : Later lo hi s { s with finisher := v } := .of_eq rfl rfl

theorem Later.loadFinisher (s : State) (i : Slot) : Later lo hi s (s.loadFinisher i).1 :=
  (((Later.leaveList ..).trans (.clearReference ..)).trans (.inState ..)).trans (.setFinisher ..)

theorem Later.clearFinisher (s : State) : Later lo hi s s.clearFinisher := .of_eq rfl rfl

theorem Later.settleFinished (s : State) (i : Slot) : Later lo hi s (s.settleFinished i) := by
  unfold State.settleFinished
  split
  · exact .holdAtStep ..
  split
  · exact .holdAtStep ..
  split
  · exact .holdAtStep ..
  · exact (Later.inState ..).trans (.post ..)

theorem Later.undoFinish (s : State) (i : Slot) : Later lo hi s (s.undoFinish i) := by
  unfold State.undoFinish
  split
  · exact .holdAtStep ..
  · exact (Later.inState ..).trans (.fillList ..)

theorem Later.breakOffFinish (s : State) (i : Slot) : Later lo hi s (s.breakOffFinish i) :=
  ((Later.abortRun ..).trans (.abortRun ..)).trans (.holdAtStep ..)

/-! ### The deeds -/

theorem Later.setItem (s : State) (x : Item) (v : Nat) : Later lo hi s (s.setItem x v) := .of_eq rfl rfl

theorem Later.storeItem (s : State) (x : Item) (v : Nat) : Later lo hi s (s.storeItem x v) := by
  unfold State.storeItem State.itemChanged
  split
  · exact .refl s
  · split
    · exact (Later.setItem ..).trans (.evaluateGate _)
    · exact .setItem ..

theorem StoreDeed.later (h : StoreDeed s t) : Later lo hi s t := by
  cases h with
  | still => exact .refl s
  | clearType | storeType | openDrawer | closeDrawer | drawerSecond | overdueSecond => exact .of_eq rfl rfl
  | storeItem x v => exact .storeItem ..
  | setMass m _ => exact (Later.setSolvent ..).trans (.evaluateGate _)

theorem LightDeed.later (h : LightDeed s t) : Later lo hi s t := h.lightMove.later

/-- STAGE_LOT fills FREE slots, PURGE clears one, and every other deed on plates leaves later records. -/
theorem PlateDeed.later_cases (h : PlateDeed s t) :
    Later (s.item .vMin) (s.item .vMax) s t
      ∨ (∃ i, ((s.plate i).state = .done ∨ (s.plate i).state = .scrapped) ∧ t = s.modPlate i fun _ => Plate.cleared)
      ∨ ∃ ix lot n, n ≤ 16 ∧ (s.typeRec ix).valid = true ∧ 1 ≤ lot.relief.toNat
        ∧ lot.relief.toNat < (s.typeRec ix).thickness ∧ s.lotFits lot = true
        ∧ t = s.stage (stagedPlate ix (s.typeRec ix) lot) (s.freeSlots.take n) := by
  cases h with
  | stage ix lot n hn hv hr hr' hf => exact .inr (.inr ⟨ix, lot, n, hn, hv, hr, hr', hf, rfl⟩)
  | purge i hs _ => exact .inr (.inl ⟨i, hs, rfl⟩)
  | hold i from_ _ => exact .inl ((Later.leaveOwnList ..).trans (.modPlate i (.heldFor ..)))
  | pend i _ => exact .inl (.modPlate i ⟨rfl, fun _ h => h, id, fun _ h => .inl h⟩)
  | release i dest _ _ => exact .inl ((Later.modPlate i (.released ..)).trans (.joinReleased ..))
  | unpend i => exact .inl (.modPlate i ⟨rfl, fun _ h => h, id, fun _ h => .inl h⟩)
  | scrap i _ => exact .inl ((Later.leaveOwnList ..).trans (.modPlate i (.released ..)))
  | loadWide i _ _ => exact .inl ((Later.placeOnFrame ..).trans (.bedLoaded ..))
  | loadPair i j _ _ _ _ => exact .inl (((Later.placeOnFrame ..).trans (.placeOnFrame ..)).trans (.bedLoaded ..))
  | loadOne i _ _ => exact .inl ((Later.placeOnFrame ..).trans (.bedLoaded ..))
  | unload _ => exact .inl (((Later.settleLane ..).trans (.settleLane ..)).trans (.clearBed _))
  | undoLoad _ => exact .inl ((Later.undoLoad s).trans (.of_eq rfl rfl))
  | breakOffLoad => exact .inl (.breakOffLoad s)
  | claim i _ _ _ => exact .inl (.claim s i)
  | washDone i _ => exact .inl ((((Later.leaveTransit ..).trans (.book ..)).trans (.endWash ..)).trans (.evaluateGate _))
  | washFault i _ => exact .inl ((((Later.leaveTransit ..).trans (.book ..)).trans (.holdAtStep ..)).trans (.evaluateGate _))
  | overdue i _ => exact .inl (.overdueExpiry s i)
  | loadDrawer d i _ _ => exact .inl (.loadDrawer s d i)
  | unloadDrawer d i _ => exact .inl (.unloadDrawer s d i)
  | dryExpiry d => exact .inl (.dryExpiry s d)
  | loadFinisher i _ _ => exact .inl (.loadFinisher s i)
  | clearFinisher _ => exact .inl (.clearFinisher s)
  | unloadFinisher i _ => exact .inl ((Later.settleFinished ..).trans (.clearFinisher _))
  | undoFinish i _ => exact .inl ((Later.undoFinish ..).trans (.setFinisher ..))
  | breakOffFinish i _ => exact .inl ((Later.breakOffFinish ..).trans (.clearFinisher _))

end

/-! ### STAGE_LOT's slots -/

theorem fillCopies_of_not_mem {mk : Nat → Plate} {i : Slot} {slots : List Slot} (h : i ∉ slots) (n : Nat) (s : State) :
    (s.fillCopies mk n slots).plate i = s.plate i := by
  induction slots generalizing n s with
  | nil => rfl
  | cons j rest ih =>
    obtain ⟨hj, hr⟩ := not_or.mp (mt List.mem_cons.mpr h)
    rw [State.fillCopies, ih hr, State.plate_modPlate_ne _ _ hj]

/-- The copies are numbered in the order of their slots (R69). -/
theorem fillCopies_of_mem {mk : Nat → Plate} {i : Slot} {slots : List Slot} (h : i ∈ slots) (hn : slots.Nodup) (n : Nat)
    (s : State) : (s.fillCopies mk n slots).plate i = mk (n + slots.idxOf i) := by
  induction slots generalizing n s with
  | nil => cases h
  | cons j rest ih =>
    obtain ⟨hj, hr⟩ := List.nodup_cons.mp hn
    by_cases e : i = j
    · subst e
      rw [State.fillCopies, fillCopies_of_not_mem hj, State.plate_modPlate_self]
      simp
    · rw [State.fillCopies, ih ((List.mem_cons.mp h).resolve_left e) hr, List.idxOf_cons_ne _ (Ne.symm e)]
      congr 1
      omega

theorem fillCopies_eq (mk : Nat → Plate) (n : Nat) (slots : List Slot) (s : State) :
    ∃ plates, s.fillCopies mk n slots = { s with plates := plates } := by
  induction slots generalizing n s with
  | nil => exact ⟨_, rfl⟩
  | cons j rest ih =>
    obtain ⟨plates, h⟩ := ih (n + 1) (s.modPlate j fun _ => mk n)
    exact ⟨plates, h⟩

@[simp] theorem fillList_plate (s : State) (l : WaitList) (q : List Slot) (i : Slot) :
    (s.fillList l q).plate i = s.plate i := by
  simp [State.fillList]

theorem freeSlots_nodup (s : State) : s.freeSlots.Nodup := (List.nodup_finRange 64).filter _

theorem mem_freeSlots (s : State) (i : Slot) : i ∈ s.freeSlots ↔ (s.plate i).state = .free := by
  simp [State.freeSlots]

/-- The plates after STAGE_LOT: a copy in each slot filled, every other slot as it was. -/
theorem stage_plate {s : State} {mk : Nat → Plate} {slots : List Slot} (hn : slots.Nodup) (i : Slot) :
    (s.stage mk slots).plate i = if i ∈ slots then mk (slots.idxOf i) else s.plate i := by
  rw [State.stage, fillList_plate]
  split
  next h => rw [fillCopies_of_mem h hn, Nat.zero_add]
  next h => exact fillCopies_of_not_mem h 0 s

theorem stage_frame (s : State) (mk : Nat → Plate) (slots : List Slot) (p : Port) :
    ((s.stage mk slots).port p).frame = (s.port p).frame := by
  obtain ⟨plates, h⟩ := fillCopies_eq mk 0 slots s
  rw [State.stage, (Later.fillList (lo := 0) (hi := 0) ..).frames p, h]
  rfl

/-! ### Marks and frames -/

/-- No deed moves a port's frame. -/
theorem Deed.frames {s t : State} (h : Deed s t) (p : Port) : (t.port p).frame = (s.port p).frame := by
  cases h with
  | store h => exact (h.later (lo := 0) (hi := 0)).frames p
  | light h => exact (h.later (lo := 0) (hi := 0)).frames p
  | plate h =>
    rcases h.later_cases with hl | ⟨i, -, rfl⟩ | ⟨ix, lot, n, -, -, -, -, -, rfl⟩
    · exact hl.frames p
    · rfl
    · exact stage_frame ..

/-- A deed leaves a later record of a plate, or clears its slot (R16), or fills a slot that is FREE (R69). -/
theorem Deed.plate_cases {s t : State} (h : Deed s t) (i : Slot) :
    Plate.Later (s.item .vMin) (s.item .vMax) (s.plate i) (t.plate i)
      ∨ (((s.plate i).state = .done ∨ (s.plate i).state = .scrapped) ∧ t.plate i = Plate.cleared)
      ∨ ((s.plate i).state = .free ∧ ∃ ix lot k, k ≤ 15 ∧ (s.typeRec ix).valid = true ∧ 1 ≤ lot.relief.toNat
        ∧ lot.relief.toNat < (s.typeRec ix).thickness ∧ s.lotFits lot = true ∧ t.types = s.types
        ∧ t.plate i = stagedPlate ix (s.typeRec ix) lot k) := by
  cases h with
  | store h => exact .inl (h.later.plates i)
  | light h => exact .inl (h.later.plates i)
  | plate h =>
    rcases h.later_cases with hl | ⟨j, hj, rfl⟩ | ⟨ix, lot, n, hn, hv, hr, hr', hf, rfl⟩
    · exact .inl (hl.plates i)
    · by_cases e : i = j
      · subst e; exact .inr (.inl ⟨hj, by simp⟩)
      · rw [State.plate_modPlate_ne _ _ e]; exact .inl (.refl _)
    · have hnd : (s.freeSlots.take n).Nodup := (freeSlots_nodup s).sublist (List.take_sublist ..)
      rw [stage_plate hnd]
      split
      next hi =>
        refine .inr (.inr ⟨(mem_freeSlots s i).mp (List.mem_of_mem_take hi), ix, lot, _, ?_, hv, hr, hr', hf, ?_, rfl⟩)
        · have := List.idxOf_lt_length_of_mem hi
          have := List.length_take_le n s.freeSlots
          omega
        · obtain ⟨plates, h⟩ := fillCopies_eq (stagedPlate ix (s.typeRec ix) lot) 0 (s.freeSlots.take n) s
          simp [State.stage, State.fillList, h]
      next hi => exact .inl (.refl _)

theorem cleared_marks (k : Mark) : Plate.cleared.marks.has k = false := by cases k <;> rfl

/-- The record of a slot is part of the line. -/
theorem plate_of_line {s t : State} (h : t.line = s.line) (i : Slot) : t.plate i = s.plate i :=
  (congrArg (State.plate · i) h :)

/-- PURGE leaves the state, or clears the record of one slot (R16). -/
theorem viaSlot_purgePlate_cases (s : State) (b : Byte) :
    (viaSlot b purgePlate s).1 = s ∨ ∃ j, (viaSlot b purgePlate s).1 = s.modPlate j fun _ => Plate.cleared := by
  unfold viaSlot
  split
  next j _ =>
    unfold purgePlate
    split
    · split
      · exact .inl rfl
      · exact .inr ⟨j, rfl⟩
    · exact .inl rfl
  · exact .inl rfl

/-- A purge that frees a slot has cleared its record. -/
theorem purge_cleared {s t : State} {b : Byte} {i : Slot} (h : exec (.purge b) s = .next t)
    (hs : (s.plate i).state ≠ .free) (ht : (t.plate i).state = .free) : t.plate i = Plate.cleared := by
  have kept (hu : t.plate i = s.plate i) : t.plate i = Plate.cleared := absurd (hu ▸ ht) hs
  obtain rfl := Host.Outcome.next.inj h
  rcases grant_cases .P (frameBytes (.purge b)) (viaSlot b purgePlate) s with ⟨-, he⟩ | ⟨-, he⟩
  · have hl : (grant .P (frameBytes (.purge b)) (viaSlot b purgePlate) s).line = (viaSlot b purgePlate s).1.line := by
      rw [he]; rfl
    have hp := plate_of_line hl i
    rcases viaSlot_purgePlate_cases s b with hu | ⟨j, hu⟩
    · exact kept (by rw [hp, hu])
    · by_cases e : i = j
      · subst e; rw [hp, hu, State.plate_modPlate_self]
      · exact kept (by rw [hp, hu, State.plate_modPlate_ne _ _ e])
  · exact kept (by rw [he])

/-- Settles O54: a later record keeps its marks, and a slot that becomes FREE is cleared. -/
theorem aMarkStaysSet : Obligations.AMarkStaysSet := by
  refine ⟨fun c s t i k h hs ht hk => ?_, fun s t b i k h hs ht => ?_, fun s t i k h => ?_⟩
  · rcases exec_line h with hl | ⟨u, hd, hl⟩
    · exact absurd (by rw [plate_of_line hl, reset_plate]; rfl) ht
    · rw [plate_of_line hl] at ht ⊢
      rcases hd.plate_cases i with hp | ⟨-, hp⟩ | ⟨hf, -⟩
      · exact hp.marks k hk
      · exact absurd (by rw [hp]; rfl) ht
      · exact absurd hf hs
  · rw [purge_cleared h hs ht]
    exact cleared_marks k
  · obtain rfl := Host.Outcome.next.inj h
    rw [plate_of_line (line_powerOn s), reset_plate]
    exact cleared_marks k

/-! ### The turn of a waiting command -/

/-- A frame that reads as an arbiter command reads as one that has an effect. -/
theorem effectOf_of_decodeFrame {q : Port} {code : Byte} {params : List Byte} {c : Instr} {row : CommandRow}
    (h : decodeFrame q (code :: params) = some c) (hrow : commandRow code = some row) (ha : row.arbiter = true) :
    ∃ f, effectOf c = some f := by
  have exempt {n : Byte} (hn : code.toNat = n.toNat) (hx : (commandRow n).any (fun r => r.arbiter) = false) : False := by
    obtain rfl := BitVec.eq_of_toNat_eq hn
    simp [hrow, ha] at hx
  have h : commandOf q code params = some c := by
    simp only [decodeFrame, hrow] at h
    split at h
    · exact h
    · cases h
  unfold commandOf at h
  split at h
  case h_1 e => exact (exempt (n := 1) e (by decide)).elim
  case h_2 e => exact (exempt (n := 2) e (by decide)).elim
  case h_3 e => exact (exempt (n := 3) e (by decide)).elim
  case h_4 e => exact (exempt (n := 4) e (by decide)).elim
  case h_5 e => exact (exempt (n := 5) e (by decide)).elim
  all_goals
    cases h
    try exact ⟨_, rfl⟩

/-- Once q has been granted, the pointer stands behind q: whoever waited then comes before q, and before everyone it came
before (R19). -/
theorem arbiterCycle_next (o p q r : Port) (hr : r ≠ p) (hq : (arbiterCycle o).idxOf q < (arbiterCycle o).idxOf p)
    (h : r = q ∨ (arbiterCycle o).idxOf p < (arbiterCycle o).idxOf r) :
    (arbiterCycle q.next).idxOf p < (arbiterCycle q.next).idxOf r := by
  revert hr hq h
  cases o <;> cases p <;> cases q <;> cases r <;> decide

/-- Settles O22: the grant moves the pointer behind the port granted, and no deed moves a port's frame. -/
theorem waitingCommandIsNotOvertaken : Obligations.WaitingCommandIsNotOvertaken := by
  intro c s t p q bytes code params row hg hq _ hdec hrow ha he hpq hp
  obtain ⟨f, hf⟩ := effectOf_of_decodeFrame hdec hrow ha
  rw [exec_of_granted hf hq hg] at he
  obtain rfl := Host.Outcome.next.inj he
  have hg : s.grants q (frameBytes c) = true := by simpa [Granted, hq] using hg
  obtain ⟨-, hchoice, -⟩ := (s.grants_iff q _).mp hg
  have hfirst : s.looksFirst q p :=
    (((s.arbiterChoice_eq_some_iff q).mp hchoice).2 p bytes hp).resolve_left hpq
  refine ⟨rfl, ?_, fun r hr h => arbiterCycle_next _ p q r hr hfirst h⟩
  rw [← hp, ← (effectOf_answers hf s).deed.frames p]
  exact congrArg PortRec.frame (State.port_modPort_ne (f s).1 (fun _ => _) hpq)

end Sys2Proof.Machine
end

-- ==== Sys2Proof/Proofs/G ====
section
/-! Where the plates are (R5), plate by plate. A deed takes plates out of their locations and puts them in others; a plate
in between is adrift. `Placed A s` says that every plate is in the location of its state but those of A, which are adrift:
with none adrift it is `Located`. -/

namespace Sys2Proof.Machine

/-! ### The predicate -/

/-- A plate is in the location of its state and in no other, and its optional fields are as they should be. -/
structure Spot (s : State) (i : Slot) : Prop where
  listed : ∀ l, i ∈ s.waitList l ↔ (s.plate i).state.waitList = some l
  washing : i ∈ s.transit.map (fun e => e.slot) ↔ (s.plate i).state = .washing
  lane : (s.plate i).lane = s.laneOf i
  onFrame : (s.plate i).state = .onFrame ↔ (s.laneOf i).isSome = true
  finishing : (s.plate i).state = .finishing ↔ s.finisher.slot = some i
  referenced : ∀ d, (s.plate i).drawer = some d ↔ (s.drawer d).slot = some i
  drying : (s.plate i).state = .drying ↔ ∃ d, (s.drawer d).slot = some i ∧ (s.drawer d).state ≠ .dry
  dry : ∀ d, (s.drawer d).slot = some i → (s.drawer d).state = .dry →
    (s.plate i).state = .dried ∨ ((s.plate i).state = .held ∧ (s.plate i).heldFrom = some .dried)
      ∨ (s.plate i).state = .scrapped
  held : ((s.plate i).state = .held ↔ (s.plate i).heldFrom.isSome = true)
    ∧ ((s.plate i).state = .held ↔ (s.plate i).holdReason.isSome = true)
  pendingHold : (s.plate i).holdPending = true → (s.plate i).state.isActive = true
  free : (s.plate i).state = .free → s.plate i = Plate.cleared

/-- A plate is in no location; a DRY drawer may still reference it. -/
structure Adrift (s : State) (i : Slot) : Prop where
  unlisted : ∀ l, i ∉ s.waitList l
  transit : i ∉ s.transit.map (fun e => e.slot)
  lane : s.laneOf i = none
  position : s.finisher.slot ≠ some i
  referenced : ∀ d, (s.plate i).drawer = some d ↔ (s.drawer d).slot = some i
  dry : ∀ d, (s.drawer d).slot = some i → (s.drawer d).state = .dry

/-- What the lists, the bed, the finisher position and the drawers keep of themselves. -/
structure Tables (s : State) : Prop where
  nodup : ∀ l, (s.waitList l).Nodup
  rushFirst : s.exposureQ.Pairwise (fun i j => (s.plate j).rush = true → (s.plate i).rush = true)
  transit : (s.transit.map (fun e => e.slot)).Nodup
  bed : (s.frame.state = .empty ↔ s.frame.laneA.slot = none) ∧ (s.frame.laneA.slot = none → s.frame.laneB.slot = none)
  position : s.finisher.state = .empty ↔ s.finisher.slot = none
  drawers : ∀ d, (s.drawer d).state = .empty ↔ (s.drawer d).slot = none

/-- Every plate is in the location of its state and in no other, but those of A, which are adrift. -/
structure Placed (A : List Slot) (s : State) : Prop where
  tables : Tables s
  spots : ∀ i, i ∉ A → Spot s i
  adrift : ∀ i ∈ A, Adrift s i

theorem PlateState.waitList_eq_iff (st : PlateState) (l : WaitList) : st.waitList = some l ↔
    st = (match l with | .exposure => .staged | .wash => .exposed | .dryer => .washed | .finisher => .dried) := by
  cases st <;> cases l <;> decide

theorem located_iff (s : State) : Located s ↔ Placed [] s := by
  have wet (hd : ∀ d, (s.drawer d).state = .empty ↔ (s.drawer d).slot = none) (i : Slot) (d : DrawerIx) :
      (s.drawer d).slot = some i ∧ ((s.drawer d).state = .drying ∨ (s.drawer d).state = .opened)
        ↔ (s.drawer d).slot = some i ∧ (s.drawer d).state ≠ .dry := by
    refine and_congr_right fun hi => ?_
    have he : (s.drawer d).state ≠ .empty := fun e => by simp [(hd d).mp e] at hi
    cases h : (s.drawer d).state <;> simp_all
  constructor
  · intro h
    refine ⟨⟨?_, h.rushFirst, h.washing.1, h.bed, h.position, h.drawers⟩, fun i _ => ?_, fun i hi => by cases hi⟩
    · intro l
      cases l
      · exact h.staged.1
      · exact h.washed.1
      · exact h.dried.1
      · exact h.exposed.1
    · refine ⟨fun l => ?_, h.washing.2 i, (h.onFrame i).1, (h.onFrame i).2, h.finishing i, h.referenced i, ?_, h.dry i,
        h.held i, h.pendingHold i, h.free i⟩
      · rw [PlateState.waitList_eq_iff]
        cases l
        · exact h.staged.2 i
        · exact h.washed.2 i
        · exact h.dried.2 i
        · exact h.exposed.2 i
      · rw [h.drying i]
        exact exists_congr fun d => wet h.drawers i d
  · intro h
    have spot (i : Slot) : Spot s i := h.spots i (by simp)
    have listed (l : WaitList) (i : Slot) := ((spot i).listed l).trans (PlateState.waitList_eq_iff _ l)
    have ht := h.tables
    exact {
      staged := ⟨ht.nodup .exposure, listed .exposure⟩
      rushFirst := ht.rushFirst
      exposed := ⟨ht.nodup .wash, listed .wash⟩
      washed := ⟨ht.nodup .dryer, listed .dryer⟩
      dried := ⟨ht.nodup .finisher, listed .finisher⟩
      washing := ⟨ht.transit, fun i => (spot i).washing⟩
      bed := ht.bed
      onFrame := fun i => ⟨(spot i).lane, (spot i).onFrame⟩
      position := ht.position
      finishing := fun i => (spot i).finishing
      drawers := ht.drawers
      referenced := fun i => (spot i).referenced
      drying := fun i => (spot i).drying.trans (exists_congr fun d => (wet ht.drawers i d).symm)
      dry := fun i => (spot i).dry
      held := fun i => (spot i).held
      pendingHold := fun i => (spot i).pendingHold
      free := fun i => (spot i).free }

@[simp] theorem waitList_modPlate (s : State) (i : Slot) (f : Plate → Plate) (l : WaitList) :
    (s.modPlate i f).waitList l = s.waitList l := by cases l <;> rfl

@[simp] theorem waitList_modDrawer (s : State) (d : DrawerIx) (f : Drawer → Drawer) (l : WaitList) :
    (s.modDrawer d f).waitList l = s.waitList l := by cases l <;> rfl

/-- The part of the state that says where the plates are. -/
def State.places (s : State) : State :=
  { State.reset with
    plates := s.plates, exposureQ := s.exposureQ, washQ := s.washQ, dryerQ := s.dryerQ, finisherQ := s.finisherQ
    transit := s.transit, frame := s.frame, finisher := s.finisher, drawers := s.drawers }

@[simp] theorem places_waitList (s : State) (l : WaitList) : s.places.waitList l = s.waitList l := by cases l <;> rfl

@[simp] theorem places_announce (s : State) (l : WaitList) (b : Bool) : (s.announce l b).places = s.places := by
  cases b <;> rfl

@[simp] theorem places_fillList (s : State) (l : WaitList) (q : List Slot) :
    (s.fillList l q).places = (s.setWaitList l q).places := places_announce ..

theorem Spot.of_places {s t : State} {i : Slot} (h : t.places = s.places) (hs : Spot s i) : Spot t i := by
  have fwd {u : State} (hu : Spot u i) : Spot u.places i :=
    ⟨fun l => by rw [places_waitList]; exact hu.listed l, hu.2, hu.3, hu.4, hu.5, hu.6, hu.7, hu.8, hu.9, hu.10, hu.11⟩
  have back {u : State} (hu : Spot u.places i) : Spot u i :=
    ⟨fun l => by rw [← places_waitList]; exact hu.listed l, hu.2, hu.3, hu.4, hu.5, hu.6, hu.7, hu.8, hu.9, hu.10, hu.11⟩
  exact back (h ▸ fwd hs)

theorem Adrift.of_places {s t : State} {i : Slot} (h : t.places = s.places) (hs : Adrift s i) : Adrift t i := by
  have fwd {u : State} (hu : Adrift u i) : Adrift u.places i :=
    ⟨fun l => by rw [places_waitList]; exact hu.unlisted l, hu.2, hu.3, hu.4, hu.5, hu.6⟩
  have back {u : State} (hu : Adrift u.places i) : Adrift u i :=
    ⟨fun l => by rw [← places_waitList]; exact hu.unlisted l, hu.2, hu.3, hu.4, hu.5, hu.6⟩
  exact back (h ▸ fwd hs)

theorem Tables.of_places {s t : State} (h : t.places = s.places) (hs : Tables s) : Tables t := by
  have fwd {u : State} (hu : Tables u) : Tables u.places :=
    ⟨fun l => by rw [places_waitList]; exact hu.nodup l, hu.2, hu.3, hu.4, hu.5, hu.6⟩
  have back {u : State} (hu : Tables u.places) : Tables u :=
    ⟨fun l => by rw [← places_waitList]; exact hu.nodup l, hu.2, hu.3, hu.4, hu.5, hu.6⟩
  exact back (h ▸ fwd hs)

/-- Where the plates are is read from the plates and their locations alone. -/
theorem Placed.of_places {A : List Slot} {s t : State} (hs : Placed A s) (h : t.places = s.places) : Placed A t :=
  ⟨hs.tables.of_places h, fun i hi => (hs.spots i hi).of_places h, fun i hi => (hs.adrift i hi).of_places h⟩

/-! ### What the state of a plate says of its record -/

section
variable {s : State} {i : Slot}

theorem Spot.lane_none (h : Spot s i) (hs : (s.plate i).state ≠ .onFrame) : (s.plate i).lane = none := by
  rw [h.lane, ← Option.not_isSome_iff_eq_none, ← h.onFrame]
  exact hs

theorem Spot.laneOf_none (h : Spot s i) (hs : (s.plate i).state ≠ .onFrame) : s.laneOf i = none := by
  rw [← h.lane, h.lane_none hs]

/-- A plate that is neither drying, dried, held to be dried, nor scrapped has left its drawer. -/
theorem Spot.drawer_none (h : Spot s i) (hw : (s.plate i).state ≠ .drying) (hd : (s.plate i).state ≠ .dried)
    (hh : (s.plate i).state = .held → (s.plate i).heldFrom ≠ some .dried) (hx : (s.plate i).state ≠ .scrapped) :
    (s.plate i).drawer = none := by
  by_contra hn
  obtain ⟨d, hd'⟩ := Option.ne_none_iff_exists'.mp hn
  have hslot := (h.referenced d).mp hd'
  by_cases hdry : (s.drawer d).state = .dry
  · rcases h.dry d hslot hdry with h' | ⟨h', h''⟩ | h'
    · exact hd h'
    · exact hh h' h''
    · exact hx h'
  · exact hw (h.drying.mpr ⟨d, hslot, hdry⟩)

theorem Spot.not_held (h : Spot s i) (hs : (s.plate i).state ≠ .held) :
    (s.plate i).heldFrom = none ∧ (s.plate i).holdReason = none :=
  ⟨Option.not_isSome_iff_eq_none.mp (mt h.held.1.mpr hs), Option.not_isSome_iff_eq_none.mp (mt h.held.2.mpr hs)⟩

theorem Spot.not_pending (h : Spot s i) (hs : (s.plate i).state.isActive = false) : (s.plate i).holdPending = false := by
  cases hp : (s.plate i).holdPending
  · rfl
  · rw [h.pendingHold hp] at hs; cases hs

/-- A plate that is in no drawer that is still drying is adrift once it is in no list, not in transit, not on the bed and
not in the finisher position. -/
theorem Spot.adrift {t : State} (h : Spot s i) (hw : (s.plate i).state ≠ .drying) (hplate : t.plate i = s.plate i)
    (hdrawers : t.drawers = s.drawers) (hl : ∀ l, i ∉ t.waitList l) (ht : i ∉ t.transit.map (fun e => e.slot))
    (hb : t.laneOf i = none) (hf : t.finisher.slot ≠ some i) : Adrift t i := by
  have hd (d : DrawerIx) : t.drawer d = s.drawer d := by simp only [State.drawer, hdrawers]
  refine ⟨hl, ht, hb, hf, fun d => by rw [hplate, hd]; exact h.referenced d, fun d hs => ?_⟩
  rw [hd] at hs ⊢
  by_contra hn
  exact hw (h.drying.mpr ⟨d, hs, hn⟩)

end

/-! ### Plates that a change does not concern -/

/-- Nothing about this plate has changed: not its record, nor that it is or is not in a location. -/
structure Aside (s t : State) (j : Slot) : Prop where
  plate : t.plate j = s.plate j
  lists : ∀ l, j ∈ t.waitList l ↔ j ∈ s.waitList l
  transit : j ∈ t.transit.map (fun e => e.slot) ↔ j ∈ s.transit.map (fun e => e.slot)
  lane : t.laneOf j = s.laneOf j
  position : t.finisher.slot = some j ↔ s.finisher.slot = some j
  slots : ∀ d, (t.drawer d).slot = some j ↔ (s.drawer d).slot = some j
  covers : ∀ d, (s.drawer d).slot = some j → ((t.drawer d).state = .dry ↔ (s.drawer d).state = .dry)

section
variable {s t : State} {j : Slot}

theorem Spot.aside (h : Spot s j) (k : Aside s t j) : Spot t j := by
  refine ⟨?_, ?_, ?_, ?_, ?_, ?_, ?_, ?_, ?_, ?_, ?_⟩ <;> rw [k.plate]
  · exact fun l => (k.lists l).trans (h.listed l)
  · exact k.transit.trans h.washing
  · rw [k.lane]; exact h.lane
  · rw [k.lane]; exact h.onFrame
  · exact h.finishing.trans k.position.symm
  · exact fun d => (h.referenced d).trans (k.slots d).symm
  · rw [h.drying]
    refine exists_congr fun d => ?_
    rw [k.slots d]
    exact and_congr_right fun hd => (not_congr (k.covers d hd)).symm
  · exact fun d hd hdry => h.dry d ((k.slots d).mp hd) ((k.covers d ((k.slots d).mp hd)).mp hdry)
  · exact h.held
  · exact h.pendingHold
  · exact h.free

theorem Adrift.aside (h : Adrift s j) (k : Aside s t j) : Adrift t j := by
  refine ⟨fun l => mt (k.lists l).mp (h.unlisted l), mt k.transit.mp h.transit, k.lane.trans h.lane,
    mt k.position.mp h.position, fun d => ?_, fun d hd => ?_⟩
  · rw [k.plate]; exact (h.referenced d).trans (k.slots d).symm
  · have hd := (k.slots d).mp hd
    exact (k.covers d hd).mpr (h.dry d hd)

theorem Aside.refl (s : State) (j : Slot) : Aside s s j :=
  ⟨rfl, fun _ => Iff.rfl, Iff.rfl, rfl, Iff.rfl, fun _ => Iff.rfl, fun _ _ => Iff.rfl⟩

theorem Aside.trans {u : State} (h : Aside s t j) (k : Aside t u j) : Aside s u j :=
  ⟨k.plate.trans h.plate, fun l => (k.lists l).trans (h.lists l), k.transit.trans h.transit, k.lane.trans h.lane,
    k.position.trans h.position, fun d => (k.slots d).trans (h.slots d),
    fun d hd => (k.covers d ((h.slots d).mpr hd)).trans (h.covers d hd)⟩

theorem Aside.modPlate {i : Slot} (hj : j ≠ i) (s : State) (f : Plate → Plate) : Aside s (s.modPlate i f) j :=
  ⟨State.plate_modPlate_ne _ _ hj, fun l => by cases l <;> rfl, Iff.rfl, rfl, Iff.rfl, fun _ => Iff.rfl,
    fun _ _ => Iff.rfl⟩

theorem Aside.setWaitList {l : WaitList} {q : List Slot} (h : j ∈ q ↔ j ∈ s.waitList l) :
    Aside s (s.setWaitList l q) j := by
  refine ⟨by simp, fun m => ?_, by simp, ?_, by simp, by simp, by simp⟩
  · by_cases e : m = l
    · subst e; rw [State.waitList_setWaitList_self]; exact h
    · rw [State.waitList_setWaitList_ne _ _ e]
  · cases l <;> rfl

theorem Aside.setTransit {l : List TransitEntry}
    (h : j ∈ l.map (fun e => e.slot) ↔ j ∈ s.transit.map (fun e => e.slot)) : Aside s { s with transit := l } j :=
  ⟨rfl, fun m => by cases m <;> rfl, h, rfl, Iff.rfl, fun _ => Iff.rfl, fun _ _ => Iff.rfl⟩

theorem Aside.setFrame {u : FrameUnit} (h : State.laneOf { s with frame := u } j = s.laneOf j) :
    Aside s { s with frame := u } j :=
  ⟨rfl, fun m => by cases m <;> rfl, Iff.rfl, h, Iff.rfl, fun _ => Iff.rfl, fun _ _ => Iff.rfl⟩

theorem Aside.setFinisher {v : Finisher} (h : v.slot = some j ↔ s.finisher.slot = some j) :
    Aside s { s with finisher := v } j :=
  ⟨rfl, fun m => by cases m <;> rfl, Iff.rfl, rfl, h, fun _ => Iff.rfl, fun _ _ => Iff.rfl⟩

theorem Aside.modDrawer {d : DrawerIx} {f : Drawer → Drawer}
    (hslot : (f (s.drawer d)).slot = some j ↔ (s.drawer d).slot = some j)
    (hcover : (s.drawer d).slot = some j → ((f (s.drawer d)).state = .dry ↔ (s.drawer d).state = .dry)) :
    Aside s (s.modDrawer d f) j := by
  refine ⟨rfl, fun m => by cases m <;> rfl, Iff.rfl, rfl, Iff.rfl, fun e => ?_, fun e => ?_⟩
  · by_cases h : e = d
    · subst h; rw [State.drawer_modDrawer_self]; exact hslot
    · rw [State.drawer_modDrawer_ne _ _ h]
  · by_cases h : e = d
    · subst h; rw [State.drawer_modDrawer_self]; exact hcover
    · rw [State.drawer_modDrawer_ne _ _ h]; exact fun _ => Iff.rfl

end

/-! ### Lifting and landing -/

section
variable {A : List Slot} {s t : State} {i : Slot}

/-- Plate i is taken out of its location. -/
theorem Placed.lift (h : Placed A s) (ht : Tables t) (hi : Adrift t i) (hj : ∀ j, j ≠ i → Aside s t j) :
    Placed (i :: A) t := by
  refine ⟨ht, fun j hjA => ?_, fun j hjA => ?_⟩
  · obtain ⟨hji, hjA⟩ := not_or.mp (mt List.mem_cons.mpr hjA)
    exact (h.spots j hjA).aside (hj j hji)
  · by_cases e : j = i
    · subst e; exact hi
    · exact (h.adrift j ((List.mem_cons.mp hjA).resolve_left e)).aside (hj j e)

/-- Plate i, which was adrift, is put in a location. -/
theorem Placed.land (h : Placed (i :: A) s) (hA : i ∉ A) (ht : Tables t) (hi : Spot t i)
    (hj : ∀ j, j ≠ i → Aside s t j) : Placed A t := by
  refine ⟨ht, fun j hjA => ?_, fun j hjA => ?_⟩
  · by_cases e : j = i
    · subst e; exact hi
    · exact (h.spots j (by simp [e, hjA])).aside (hj j e)
  · have e : j ≠ i := fun e => hA (e ▸ hjA)
    exact (h.adrift j (List.mem_cons_of_mem _ hjA)).aside (hj j e)

/-- A change that concerns one plate, and leaves it where it is. -/
theorem Placed.stay (h : Placed A s) (ht : Tables t) (hspot : i ∉ A → Spot t i) (hadrift : i ∈ A → Adrift t i)
    (hj : ∀ j, j ≠ i → Aside s t j) : Placed A t := by
  refine ⟨ht, fun j hjA => ?_, fun j hjA => ?_⟩
  · by_cases e : j = i
    · subst e; exact hspot hjA
    · exact (h.spots j hjA).aside (hj j e)
  · by_cases e : j = i
    · subst e; exact hadrift hjA
    · exact (h.adrift j hjA).aside (hj j e)

/-! ### Tables after a change -/

theorem Tables.modPlate (h : Tables s) (f : Plate → Plate)
    (hr : i ∈ s.exposureQ → (f (s.plate i)).rush = (s.plate i).rush) : Tables (s.modPlate i f) := by
  refine ⟨fun l => by have := h.nodup l; cases l <;> exact this, ?_, h.transit, h.bed, h.position, h.drawers⟩
  have hrush (j : Slot) (hj : j ∈ s.exposureQ) : ((s.modPlate i f).plate j).rush = (s.plate j).rush := by
    by_cases e : j = i
    · subst e; rw [State.plate_modPlate_self, hr hj]
    · rw [State.plate_modPlate_ne _ _ e]
  exact h.rushFirst.imp_of_mem fun ha hb hab => by rw [hrush _ ha, hrush _ hb]; exact hab

theorem Tables.setWaitList (h : Tables s) {l : WaitList} {q : List Slot} (hq : q.Nodup)
    (hr : l = .exposure → q.Pairwise (fun i j => (s.plate j).rush = true → (s.plate i).rush = true)) :
    Tables (s.setWaitList l q) := by
  refine ⟨fun m => ?_, ?_, by simpa using h.transit, by simpa using h.bed, by simpa using h.position,
    fun d => by simpa using h.drawers d⟩
  · by_cases e : m = l
    · subst e; rw [State.waitList_setWaitList_self]; exact hq
    · rw [State.waitList_setWaitList_ne _ _ e]; exact h.nodup m
  · cases l with
    | exposure => exact hr rfl
    | dryer | finisher | wash => exact h.rushFirst

theorem Tables.setTransit (h : Tables s) {l : List TransitEntry} (hl : (l.map (fun e => e.slot)).Nodup) :
    Tables { s with transit := l } :=
  ⟨fun m => by have := h.nodup m; cases m <;> exact this, h.rushFirst, hl, h.bed, h.position, h.drawers⟩

theorem Tables.setFrame (h : Tables s) {u : FrameUnit} (hu : u.state = .empty ↔ u.laneA.slot = none)
    (hb : u.laneA.slot = none → u.laneB.slot = none) : Tables { s with frame := u } :=
  ⟨fun m => by have := h.nodup m; cases m <;> exact this, h.rushFirst, h.transit, ⟨hu, hb⟩, h.position, h.drawers⟩

theorem Tables.setFinisher (h : Tables s) {v : Finisher} (hv : v.state = .empty ↔ v.slot = none) :
    Tables { s with finisher := v } :=
  ⟨fun m => by have := h.nodup m; cases m <;> exact this, h.rushFirst, h.transit, h.bed, hv, h.drawers⟩

theorem Tables.modDrawer (h : Tables s) {d : DrawerIx} {f : Drawer → Drawer}
    (hf : (f (s.drawer d)).state = .empty ↔ (f (s.drawer d)).slot = none) : Tables (s.modDrawer d f) := by
  refine ⟨fun m => by have := h.nodup m; cases m <;> exact this, h.rushFirst, h.transit, h.bed, h.position, fun e => ?_⟩
  by_cases he : e = d
  · subst he; rw [State.drawer_modDrawer_self]; exact hf
  · rw [State.drawer_modDrawer_ne _ _ he]; exact h.drawers e

/-! ### Records changed where they stand -/

/-- The record of a plate that is adrift is changed, but for the drawer it names. -/
theorem Placed.modAdrift (h : Placed A s) (hi : i ∈ A) {f : Plate → Plate}
    (hd : (f (s.plate i)).drawer = (s.plate i).drawer) : Placed A (s.modPlate i f) := by
  have ha := h.adrift i hi
  refine h.stay (h.tables.modPlate f fun hq => absurd hq (ha.unlisted .exposure)) (fun hn => absurd hi hn) (fun _ => ?_)
    fun j hj => .modPlate hj s f
  refine ⟨fun l => by have := ha.unlisted l; cases l <;> exact this, ha.transit, ha.lane, ha.position, fun d => ?_, ha.dry⟩
  rw [State.plate_modPlate_self, hd]
  exact ha.referenced d

/-- A record that says what another says of where its plate is. -/
structure Plate.InPlace (p q : Plate) : Prop where
  state : q.state = p.state
  lane : q.lane = p.lane
  drawer : q.drawer = p.drawer
  rush : q.rush = p.rush
  heldFrom : q.heldFrom = p.heldFrom
  holdReason : q.holdReason = p.holdReason
  holdPending : q.holdPending = true → p.holdPending = true ∨ p.state.isActive = true
  free : p.state = .free → q = p

theorem Spot.inPlace {t : State} (h : Spot s i) (hp : Plate.InPlace (s.plate i) (t.plate i))
    (hl : ∀ l, i ∈ t.waitList l ↔ i ∈ s.waitList l)
    (ht : i ∈ t.transit.map (fun e => e.slot) ↔ i ∈ s.transit.map (fun e => e.slot)) (hb : t.laneOf i = s.laneOf i)
    (hf : t.finisher.slot = s.finisher.slot) (hd : t.drawers = s.drawers) : Spot t i := by
  have hd (d : DrawerIx) : t.drawer d = s.drawer d := by simp only [State.drawer, hd]
  refine ⟨fun l => ?_, ?_, ?_, ?_, ?_, fun d => ?_, ?_, fun d => ?_, ?_, fun hpend => ?_, fun hfree => ?_⟩
  · rw [hl, hp.state]; exact h.listed l
  · rw [ht, hp.state]; exact h.washing
  · rw [hp.lane, hb]; exact h.lane
  · rw [hp.state, hb]; exact h.onFrame
  · rw [hp.state, hf]; exact h.finishing
  · rw [hp.drawer, hd]; exact h.referenced d
  · rw [hp.state, h.drying]; simp only [hd]
  · rw [hp.state, hp.heldFrom, hd]; exact h.dry d
  · rw [hp.state, hp.heldFrom, hp.holdReason]; exact h.held
  · rw [hp.state]; exact (hp.holdPending hpend).elim h.pendingHold id
  · rw [hp.state] at hfree; rw [hp.free hfree]; exact h.free hfree

theorem Placed.modInPlace (h : Placed A s) {f : Plate → Plate} (hp : Plate.InPlace (s.plate i) (f (s.plate i))) :
    Placed A (s.modPlate i f) := by
  by_cases hi : i ∈ A
  · exact h.modAdrift hi hp.drawer
  · refine h.stay (h.tables.modPlate f fun _ => hp.rush) (fun hi => ?_) (fun hi' => absurd hi' hi)
      fun j hj => .modPlate hj s f
    exact (h.spots i hi).inPlace (by simpa using hp) (fun l => by cases l <;> rfl) Iff.rfl rfl rfl rfl

/-! ### Lifts -/

theorem mem_filter_ne (q : List Slot) (i j : Slot) : j ∈ q.filter (fun k => k != i) ↔ j ∈ q ∧ j ≠ i := by
  simp

/-- A waiting plate leaves its list (R8, R64). -/
theorem Placed.liftListed (h : Placed A s) {l : WaitList} (hi : i ∉ A) (hs : (s.plate i).state.waitList = some l) :
    Placed (i :: A) (s.leaveList l i) := by
  have hspot := h.spots i hi
  have hst := (PlateState.waitList_eq_iff _ l).mp hs
  refine h.lift (h.tables.setWaitList ((h.tables.nodup l).filter _) fun hl => ?_) (hspot.adrift ?_ ?_ ?_ ?_ ?_ ?_ ?_)
    fun j hj => .setWaitList (by simp [hj])
  · subst hl; exact h.tables.rushFirst.filter _
  · cases l <;> simp [hst]
  · simp [State.leaveList]
  · simp [State.leaveList]
  · intro m
    by_cases e : m = l
    · subst e; rw [State.leaveList, State.waitList_setWaitList_self]; simp
    · rw [State.leaveList, State.waitList_setWaitList_ne _ _ e, hspot.listed m, hs]
      exact fun e' => e (Option.some.inj e').symm
  · simp only [State.leaveList, State.setWaitList_transit]
    rw [hspot.washing, hst]
    cases l <;> simp
  · rw [State.leaveList]
    have : (s.setWaitList l ((s.waitList l).filter fun j => j != i)).laneOf i = s.laneOf i := by cases l <;> rfl
    rw [this]
    exact hspot.laneOf_none (by cases l <;> simp [hst])
  · simp only [State.leaveList, State.setWaitList_finisher]
    rw [Ne, ← hspot.finishing, hst]
    cases l <;> simp

/-- A plate that is in no location at all. -/
theorem Placed.liftPlain (h : Placed A s) (hi : i ∉ A)
    (hs : (s.plate i).state ∈ [PlateState.free, .done, .held, .scrapped]) : Placed (i :: A) s := by
  have hspot := h.spots i hi
  have hne {st : PlateState} (hst : st ∉ [PlateState.free, .done, .held, .scrapped]) : (s.plate i).state ≠ st :=
    fun e => hst (e ▸ hs)
  refine h.lift h.tables (hspot.adrift (hne (by decide)) rfl rfl (fun l => ?_) ?_ (hspot.laneOf_none (hne (by decide))) ?_)
    fun j _ => .refl s j
  · rw [hspot.listed l, PlateState.waitList_eq_iff]
    cases l <;> exact hne (by decide)
  · rw [hspot.washing]; exact hne (by decide)
  · rw [Ne, ← hspot.finishing]; exact hne (by decide)

theorem mem_map_slot_filter (l : List TransitEntry) (i j : Slot) :
    j ∈ (l.filter (fun e => e.slot != i)).map (fun e => e.slot) ↔ j ∈ l.map (fun e => e.slot) ∧ j ≠ i := by
  simp only [List.mem_map, List.mem_filter, bne_iff_ne]
  constructor
  · rintro ⟨e, ⟨he, hne⟩, rfl⟩; exact ⟨⟨e, he, rfl⟩, hne⟩
  · rintro ⟨⟨e, he, rfl⟩, hne⟩; exact ⟨e, ⟨he, hne⟩, rfl⟩

/-- A plate leaves the transit list (R124). -/
theorem Placed.liftTransit (h : Placed A s) (hi : i ∉ A) (hs : (s.plate i).state = .washing) :
    Placed (i :: A) (s.leaveTransit i) := by
  have hspot := h.spots i hi
  refine h.lift (h.tables.setTransit ((h.tables.transit.sublist ((List.filter_sublist ..).map _))))
    (hspot.adrift (by simp [hs]) rfl rfl (fun l => ?_) ?_ (hspot.laneOf_none (by simp [hs])) ?_)
    fun j hj => .setTransit (by rw [mem_map_slot_filter]; simp [hj])
  · have : i ∉ s.waitList l := by rw [hspot.listed l, hs]; simp [PlateState.waitList]
    cases l <;> exact this
  · change i ∉ (s.transit.filter _).map _
    rw [mem_map_slot_filter]; simp
  · change s.finisher.slot ≠ some i
    rw [Ne, ← hspot.finishing, hs]; simp

/-- The finisher position is emptied. -/
theorem Placed.liftFinisher (h : Placed A s) (hi : i ∉ A) (hs : s.finisher.slot = some i) :
    Placed (i :: A) { s with finisher := {} } := by
  have hspot := h.spots i hi
  have hst := hspot.finishing.mpr hs
  refine h.lift (h.tables.setFinisher (by simp)) (hspot.adrift (by simp [hst]) rfl rfl (fun l => ?_) ?_ ?_ (by simp))
    fun j hj => .setFinisher ?_
  · have : i ∉ s.waitList l := by rw [hspot.listed l, hst]; simp [PlateState.waitList]
    cases l <;> exact this
  · change i ∉ s.transit.map _
    rw [hspot.washing, hst]; simp
  · change s.laneOf i = none
    exact hspot.laneOf_none (by simp [hst])
  · simp only [hs, Option.some.injEq]
    exact ⟨fun e => by simp at e, fun e => absurd e.symm hj⟩

theorem FrameUnit.mem_plates (u : FrameUnit) (i : Slot) :
    i ∈ u.plates ↔ u.laneA.slot = some i ∨ u.laneB.slot = some i := by
  unfold FrameUnit.plates FrameUnit.isWide
  split
  next h =>
    have h : u.laneA.slot.isSome = true ∧ u.laneA.slot = u.laneB.slot := by simpa using h
    simp [← h.2]
  · simp

theorem laneOf_isSome (s : State) (i : Slot) : (s.laneOf i).isSome = true ↔ i ∈ s.frame.plates := by
  rw [FrameUnit.mem_plates, State.laneOf]
  by_cases ha : s.frame.laneA.slot = some i <;> by_cases hb : s.frame.laneB.slot = some i <;> simp [ha, hb]

/-- The bed is emptied: every plate on it is adrift. -/
theorem Placed.liftBed (h : Placed [] s) : Placed s.frame.plates { s with frame := {} } := by
  have hnone (j : Slot) : State.laneOf { s with frame := {} } j = none := by simp [State.laneOf]
  refine ⟨h.tables.setFrame (by simp) (by simp), fun j hj => ?_, fun j hj => ?_⟩
  · refine (h.spots j (by simp)).aside (.setFrame ?_)
    rw [hnone, eq_comm, ← Option.not_isSome_iff_eq_none, laneOf_isSome]
    exact hj
  · have hspot := h.spots j (by simp)
    have hst := hspot.onFrame.mpr ((laneOf_isSome s j).mpr hj)
    refine hspot.adrift (by simp [hst]) rfl rfl (fun l => ?_) ?_ (hnone j) ?_
    · have : j ∉ s.waitList l := by rw [hspot.listed l, hst]; simp [PlateState.waitList]
      cases l <;> exact this
    · change j ∉ s.transit.map _
      rw [hspot.washing, hst]; simp
    · change s.finisher.slot ≠ some j
      rw [Ne, ← hspot.finishing, hst]; simp

/-- A plate is in one drawer at most. -/
theorem Spot.drawer_unique (h : Spot s i) {d e : DrawerIx} (hd : (s.drawer d).slot = some i)
    (he : (s.drawer e).slot = some i) : e = d :=
  Option.some.inj (((h.referenced e).mpr he).symm.trans ((h.referenced d).mpr hd))

theorem Spot.of_drying (h : Spot s i) (hs : (s.plate i).state = .drying) :
    (∀ l, i ∉ s.waitList l) ∧ i ∉ s.transit.map (fun e => e.slot) ∧ s.laneOf i = none ∧ s.finisher.slot ≠ some i := by
  refine ⟨fun l => ?_, ?_, h.laneOf_none (by simp [hs]), ?_⟩
  · rw [h.listed l, hs]; simp [PlateState.waitList]
  · rw [h.washing, hs]; simp
  · rw [Ne, ← h.finishing, hs]; simp

/-- A wet plate is taken out of its drawer (R150). -/
theorem Placed.liftWet (h : Placed A s) (hi : i ∉ A) {d : DrawerIx} (hd : (s.drawer d).slot = some i)
    (hw : (s.drawer d).state ≠ .dry) : Placed (i :: A) (s.emptyDrawer d i) := by
  have hspot := h.spots i hi
  obtain ⟨hl, ht, hb, hf⟩ := hspot.of_drying (hspot.drying.mpr ⟨d, hd, hw⟩)
  have hslot (e : DrawerIx) : ((s.emptyDrawer d i).drawer e).slot ≠ some i := by
    by_cases he : e = d
    · subst he; simp [State.emptyDrawer]
    · rw [State.emptyDrawer, State.drawer_modDrawer_ne _ _ he]
      exact fun h' => he (hspot.drawer_unique hd h')
  refine h.lift ((h.tables.modPlate _ fun _ => rfl).modDrawer (by simp)) ?_ fun j hj => ?_
  · refine ⟨fun l => by have := hl l; cases l <;> exact this, ht, hb, hf, fun e => ?_, fun e he => absurd he (hslot e)⟩
    simp only [hslot e, iff_false]
    rw [State.emptyDrawer, State.modDrawer_plate, State.plate_modPlate_self]
    simp
  · refine (Aside.modPlate hj s _).trans (.modDrawer ?_ ?_)
    · simp [hd, hj.symm]
    · simp [hd, hj.symm]

/-- A DRY drawer stops referencing a plate, which stays where it is (R150, R151). -/
theorem Placed.clearDry (h : Placed A s) {d : DrawerIx} (hd : (s.drawer d).slot = some i)
    (hdry : (s.drawer d).state = .dry) : Placed A (s.emptyDrawer d i) := by
  have hrec (href : ∀ e, (s.plate i).drawer = some e ↔ (s.drawer e).slot = some i) (e : DrawerIx) :
      ((s.emptyDrawer d i).drawer e).slot ≠ some i := by
    by_cases he : e = d
    · subst he; simp [State.emptyDrawer]
    · rw [State.emptyDrawer, State.drawer_modDrawer_ne _ _ he]
      exact fun h' => he (Option.some.inj (((href e).mpr h').symm.trans ((href d).mpr hd)))
  have hplate : (s.emptyDrawer d i).plate i = { s.plate i with drawer := none } := by
    rw [State.emptyDrawer, State.modDrawer_plate, State.plate_modPlate_self]
  refine h.stay (i := i) ((h.tables.modPlate _ fun _ => rfl).modDrawer (by simp)) (fun hi => ?_) (fun hi => ?_)
    fun j hj => ?_
  · have hspot := h.spots i hi
    have hs := hspot.dry d hd hdry
    have hslot := hrec hspot.referenced
    refine ⟨fun l => ?_, ?_, ?_, ?_, ?_, fun e => ?_, ?_, fun e he => absurd he (hslot e), ?_, ?_, fun hfree => ?_⟩
    all_goals simp only [hplate]
    · have := hspot.listed l; cases l <;> exact this
    · exact hspot.washing
    · exact hspot.lane
    · exact hspot.onFrame
    · exact hspot.finishing
    · simp [hslot e]
    · constructor
      · intro e; rcases hs with hs | ⟨hs, -⟩ | hs <;> simp [hs] at e
      · rintro ⟨e, he, -⟩; exact absurd he (hslot e)
    · exact hspot.held
    · exact hspot.pendingHold
    · have hfree : (s.plate i).state = .free := by rw [hplate] at hfree; exact hfree
      rcases hs with hs | ⟨hs, -⟩ | hs <;> simp [hs] at hfree
  · have ha := h.adrift i hi
    have hslot := hrec ha.referenced
    refine ⟨fun l => by have := ha.unlisted l; cases l <;> exact this, ha.transit, ha.lane, ha.position, fun e => ?_,
      fun e he => absurd he (hslot e)⟩
    simp [hplate, hslot e]
  · refine (Aside.modPlate hj s _).trans (.modDrawer ?_ ?_)
    · simp [hd, hj.symm]
    · simp [hd, hj.symm]

/-- A drawer's timer has run out: the drawer is DRY, and its plate's next location is still to come (R149). -/
theorem Placed.liftDried (h : Placed A s) (hi : i ∉ A) {d : DrawerIx} (hd : (s.drawer d).slot = some i)
    (hw : (s.drawer d).state = .drying) :
    Placed (i :: A) (s.modDrawer d fun k => { k with state := .dry, remaining := 0 }) := by
  have hspot := h.spots i hi
  obtain ⟨hl, ht, hb, hf⟩ := hspot.of_drying (hspot.drying.mpr ⟨d, hd, by simp [hw]⟩)
  refine h.lift (h.tables.modDrawer (by simp [hd])) ?_ fun j hj => .modDrawer Iff.rfl (by simp [hd, hj.symm])
  refine ⟨fun l => by have := hl l; cases l <;> exact this, ht, hb, hf, fun e => ?_, fun e he => ?_⟩
  · have := hspot.referenced e
    by_cases h' : e = d
    · subst h'; simpa using this
    · rw [State.drawer_modDrawer_ne _ _ h']; exact this
  · by_cases h' : e = d
    · subst h'; simp
    · rw [State.drawer_modDrawer_ne _ _ h'] at he
      exact absurd (hspot.drawer_unique hd he) h'

/-! ### Landings -/

/-- A record whose fields agree among themselves (R3, R9, R11). -/
structure Plate.Sound (p : Plate) : Prop where
  heldFrom : p.state = .held ↔ p.heldFrom.isSome = true
  holdReason : p.state = .held ↔ p.holdReason.isSome = true
  holdPending : p.holdPending = true → p.state.isActive = true
  free : p.state = .free → p = Plate.cleared
  drawer : p.drawer = none ∨ p.state = .dried ∨ (p.state = .held ∧ p.heldFrom = some .dried) ∨ p.state = .scrapped

/-- The spot of a plate that was adrift: its record fits its one new location, which is no drawer. -/
theorem Adrift.spot (h : Adrift s i) (hs : (t.plate i).Sound) (hw : (t.plate i).state ≠ .drying)
    (hdr : (t.plate i).drawer = (s.plate i).drawer) (hd : t.drawers = s.drawers)
    (listed : ∀ l, i ∈ t.waitList l ↔ (t.plate i).state.waitList = some l)
    (washing : i ∈ t.transit.map (fun e => e.slot) ↔ (t.plate i).state = .washing)
    (lane : (t.plate i).lane = t.laneOf i) (onFrame : (t.plate i).state = .onFrame ↔ (t.laneOf i).isSome = true)
    (finishing : (t.plate i).state = .finishing ↔ t.finisher.slot = some i) : Spot t i := by
  have hd (d : DrawerIx) : t.drawer d = s.drawer d := by simp only [State.drawer, hd]
  refine ⟨listed, washing, lane, onFrame, finishing, fun d => ?_, ?_, fun d hslot _ => ?_, ⟨hs.heldFrom, hs.holdReason⟩,
    hs.holdPending, hs.free⟩
  · rw [hdr, hd]; exact h.referenced d
  · refine ⟨fun e => absurd e hw, ?_⟩
    rintro ⟨d, hslot, hne⟩
    rw [hd] at hslot hne
    exact absurd (h.dry d hslot) hne
  · refine hs.drawer.resolve_left fun hn => ?_
    rw [hd, ← h.referenced d, ← hdr, hn] at hslot
    cases hslot

/-- A plate joins a list (R13, R63, R123, R142, R154). -/
theorem Placed.landListed (h : Placed (i :: A) s) (hA : i ∉ A) {l : WaitList} {q : List Slot} (hs : (s.plate i).Sound)
    (hst : (s.plate i).state.waitList = some l) (hlane : (s.plate i).lane = none) (hq : q.Nodup)
    (hmem : ∀ j, j ∈ q ↔ j = i ∨ j ∈ s.waitList l)
    (hr : l = .exposure → q.Pairwise (fun i j => (s.plate j).rush = true → (s.plate i).rush = true)) :
    Placed A (s.setWaitList l q) := by
  have ha := h.adrift i (List.mem_cons_self ..)
  have hst' := (PlateState.waitList_eq_iff _ l).mp hst
  have hlaneOf : (s.setWaitList l q).laneOf i = s.laneOf i := by cases l <;> rfl
  refine h.land hA (h.tables.setWaitList hq hr) (ha.spot ?_ ?_ ?_ ?_ (fun m => ?_) ?_ ?_ ?_ ?_)
    fun j hj => .setWaitList (by simp [hmem, hj])
  all_goals simp only [State.setWaitList_plate, State.setWaitList_drawers, State.setWaitList_transit,
    State.setWaitList_finisher, hlaneOf, ha.lane, hlane]
  · exact hs
  · cases l <;> simp [hst']
  · by_cases e : m = l
    · subst e; rw [State.waitList_setWaitList_self, hmem]; simp [hst]
    · rw [State.waitList_setWaitList_ne _ _ e, hst]
      exact ⟨fun h' => absurd h' (ha.unlisted m), fun e' => absurd (Option.some.inj e').symm e⟩
  · exact ⟨fun h' => absurd h' ha.transit, fun e => by cases l <;> simp [hst'] at e⟩
  · cases l <;> simp [hst']
  · exact ⟨fun e => by cases l <;> simp [hst'] at e, fun h' => absurd h' ha.position⟩

/-- A plate comes to be in no location: HELD, DONE, SCRAPPED or FREE. -/
theorem Placed.landPlain (h : Placed (i :: A) s) (hA : i ∉ A) (hs : (s.plate i).Sound)
    (hst : (s.plate i).state ∈ [PlateState.free, .done, .held, .scrapped]) (hlane : (s.plate i).lane = none) :
    Placed A s := by
  have ha := h.adrift i (List.mem_cons_self ..)
  have hne {st : PlateState} (h' : st ∉ [PlateState.free, .done, .held, .scrapped]) : (s.plate i).state ≠ st :=
    fun e => h' (e ▸ hst)
  refine h.land hA h.tables (ha.spot hs (hne (by decide)) rfl rfl (fun l => ?_) ?_ ?_ ?_ ?_) fun j _ => .refl s j
  · rw [PlateState.waitList_eq_iff]
    exact ⟨fun h' => absurd h' (ha.unlisted l), fun e => absurd e (by cases l <;> exact hne (by decide))⟩
  · exact ⟨fun h' => absurd h' ha.transit, fun e => absurd e (hne (by decide))⟩
  · rw [hlane, ha.lane]
  · rw [ha.lane]; exact ⟨fun e => absurd e (hne (by decide)), fun e => by cases e⟩
  · exact ⟨fun e => absurd e (hne (by decide)), fun h' => absurd h' ha.position⟩

/-- A plate joins the transit list (R130). -/
theorem Placed.landTransit (h : Placed (i :: A) s) (hA : i ∉ A) (hs : (s.plate i).Sound)
    (hst : (s.plate i).state = .washing) (hlane : (s.plate i).lane = none) (n : Nat) (b : Bool) :
    Placed A { s with transit := s.transit ++ [⟨i, n, b⟩] } := by
  have ha := h.adrift i (List.mem_cons_self ..)
  have hunlisted (l : WaitList) : i ∉ State.waitList { s with transit := s.transit ++ [⟨i, n, b⟩] } l := by
    have := ha.unlisted l; cases l <;> exact this
  refine h.land hA (h.tables.setTransit ?_) (ha.spot hs ?_ rfl rfl (fun l => ?_) ?_ ?_ ?_ ?_)
    fun j hj => .setTransit (by simp [hj])
  · rw [List.map_append, List.map_singleton, List.nodup_append]
    exact ⟨h.tables.transit, by simp, fun a ha' b hb => by rintro rfl; exact ha.transit (by simp_all)⟩
  · change (s.plate i).state ≠ .drying
    simp [hst]
  · change _ ↔ (s.plate i).state.waitList = some l
    rw [hst]
    simp [hunlisted l, PlateState.waitList]
  · change _ ↔ (s.plate i).state = .washing
    simp [hst]
  · exact hlane.trans ha.lane.symm
  · change (s.plate i).state = .onFrame ↔ (s.laneOf i).isSome = true
    simp [hst, ha.lane]
  · change (s.plate i).state = .finishing ↔ s.finisher.slot = some i
    simp [hst, ha.position]

/-- A plate is put in the finisher position (R156). -/
theorem Placed.landFinisher (h : Placed (i :: A) s) (hA : i ∉ A) (hs : (s.plate i).Sound)
    (hst : (s.plate i).state = .finishing) (hlane : (s.plate i).lane = none) (he : s.finisher.slot = none)
    {v : Finisher} (hv : v.slot = some i) (hv' : v.state ≠ .empty) : Placed A { s with finisher := v } := by
  have ha := h.adrift i (List.mem_cons_self ..)
  refine h.land hA (h.tables.setFinisher (by simp [hv, hv'])) (ha.spot hs ?_ rfl rfl (fun l => ?_) ?_ ?_ ?_ ?_)
    fun j hj => .setFinisher (by simp [he, hv, hj.symm])
  · change (s.plate i).state ≠ .drying
    simp [hst]
  · change _ ↔ (s.plate i).state.waitList = some l
    have : i ∉ State.waitList { s with finisher := v } l := by have := ha.unlisted l; cases l <;> exact this
    rw [hst]
    simp [this, PlateState.waitList]
  · change i ∈ s.transit.map _ ↔ (s.plate i).state = .washing
    simp only [ha.transit, hst]; simp
  · exact hlane.trans ha.lane.symm
  · change (s.plate i).state = .onFrame ↔ (s.laneOf i).isSome = true
    simp [hst, ha.lane]
  · change (s.plate i).state = .finishing ↔ v.slot = some i
    simp [hst, hv]

/-- A plate is put in an EMPTY drawer (R146). -/
theorem Placed.landDrawer (h : Placed (i :: A) s) (hA : i ∉ A) {d : DrawerIx} (he : (s.drawer d).slot = none)
    (hn : (s.plate i).drawer = none) (hlane : (s.plate i).lane = none) (hf : (s.plate i).heldFrom = none)
    (hr : (s.plate i).holdReason = none) (n : Nat) :
    Placed A ((s.modPlate i fun p => { p with state := .drying, drawer := some d }).modDrawer d
      fun _ => ⟨.drying, some i, n⟩) := by
  have ha := h.adrift i (List.mem_cons_self ..)
  have hslot (e : DrawerIx) (hed : e ≠ d) : (s.drawer e).slot ≠ some i := by
    rw [Ne, ← ha.referenced e, hn]; simp
  refine h.land hA ((h.tables.modPlate _ fun _ => rfl).modDrawer (by simp)) ?_ fun j hj =>
    (Aside.modPlate hj s _).trans (.modDrawer (by simp [he, hj.symm]) (by simp [he]))
  refine ⟨fun l => ?_, ?_, ?_, ?_, ?_, fun e => ?_, ?_, fun e hs => ?_, ?_, ?_, ?_⟩
  all_goals simp only [State.modDrawer_plate, State.plate_modPlate_self]
  · simp [ha.unlisted l, PlateState.waitList]
  · simpa using ha.transit
  · exact hlane.trans ha.lane.symm
  · refine ⟨fun e => by simp at e, fun e => ?_⟩
    have hl := ha.lane
    change (s.laneOf i).isSome = true at e
    simp [hl] at e
  · simpa using ha.position
  · by_cases hed : e = d
    · subst hed; simp
    · rw [State.drawer_modDrawer_ne _ _ hed]
      simp [hslot e hed, Ne.symm hed]
  · simp only [true_iff]
    exact ⟨d, by simp, by simp⟩
  · by_cases hed : e = d
    · subst hed; simp
    · rw [State.drawer_modDrawer_ne _ _ hed] at hs
      exact absurd hs (hslot e hed)
  · simp [hf, hr]
  · simp [PlateState.isActive]
  · simp

end

end Sys2Proof.Machine
end

-- ==== Sys2Proof/Proofs/H ====
section
/-! The deeds keep every plate in its location: each deed lifts the plates that it moves, changes their records while they
are adrift, and lands them again. -/

namespace Sys2Proof.Machine

/-! ### Records that are about to land -/

theorem Plate.heldFor_sound {p : Plate} (reason : HoldReason) {from_ : HeldFrom} (h : p.drawer = none ∨ from_ = .dried) :
    (p.heldFor reason from_).Sound := by
  refine ⟨by simp [Plate.heldFor], by simp [Plate.heldFor], by simp [Plate.heldFor], by simp [Plate.heldFor], ?_⟩
  exact h.imp_right fun e => .inr (.inl ⟨rfl, congrArg some e⟩)

/-- A record with no hold about it. -/
structure Plate.Unheld (p : Plate) : Prop where
  heldFrom : p.heldFrom = none
  holdReason : p.holdReason = none
  holdPending : p.holdPending = false

theorem Plate.Unheld.sound {p : Plate} (h : p.Unheld) (hh : p.state ≠ .held) (hf : p.state ≠ .free)
    (hd : p.drawer = none ∨ p.state = .dried ∨ p.state = .scrapped) : p.Sound :=
  ⟨by simp [h.heldFrom, hh], by simp [h.holdReason, hh], by simp [h.holdPending], fun e => absurd e hf,
    hd.imp_right fun e => e.elim .inl fun e => .inr (.inr e)⟩

section
variable {A : List Slot} {s t : State} {i : Slot}

/-- A plate that may become HELD, joins a list or is scrapped: it is not drying, and neither HELD nor to be held. -/
theorem Spot.unheld (h : Spot s i) (hs : (s.plate i).state ≠ .held) (hp : (s.plate i).holdPending = false) :
    (s.plate i).Unheld := ⟨(h.not_held hs).1, (h.not_held hs).2, hp⟩

theorem Spot.waiting_drawer (h : Spot s i) (hs : (s.plate i).state.isWaiting = true) :
    (s.plate i).drawer = none ∨ (s.plate i).state = .dried := by
  by_cases hd : (s.plate i).state = .dried
  · exact .inr hd
  · refine .inl (h.drawer_none ?_ hd ?_ ?_) <;> intro e <;> rw [e] at hs <;> cases hs

theorem Spot.onFrame_drawer (h : Spot s i) (hs : (s.plate i).state = .onFrame) : (s.plate i).drawer = none :=
  h.drawer_none (by simp [hs]) (by simp [hs]) (by simp [hs]) (by simp [hs])

/-! ### Moves common to several deeds -/

theorem Placed.aside (h : Placed A s) (ht : Tables t) (hj : ∀ j, Aside s t j) : Placed A t :=
  ⟨ht, fun j hjA => (h.spots j hjA).aside (hj j), fun j hjA => (h.adrift j hjA).aside (hj j)⟩

theorem Placed.congr {B : List Slot} (h : Placed A s) (hAB : ∀ i, i ∈ A ↔ i ∈ B) : Placed B s :=
  ⟨h.tables, fun i hi => h.spots i (mt (hAB i).mp hi), fun i hi => h.adrift i ((hAB i).mpr hi)⟩

theorem Placed.post (h : Placed A s) (p : Port) (e : Event) : Placed A (s.post p e) := h.of_places rfl

/-- An adrift plate becomes HELD at a station step (R10 to R12). -/
theorem Placed.holdAtStep (h : Placed (i :: A) s) (hA : i ∉ A) (hlane : (s.plate i).lane = none) {reason : HoldReason}
    {from_ : HeldFrom} (hd : (s.plate i).drawer = none ∨ from_ = .dried) (p : Port) :
    Placed A (s.holdAtStep i reason from_ p) := by
  have hm := h.modAdrift (List.mem_cons_self ..) (f := fun p => p.heldFor reason from_) rfl
  refine (hm.landPlain hA ?_ ?_ ?_).of_places rfl <;> rw [State.plate_modPlate_self]
  · exact Plate.heldFor_sound reason hd
  · simp [Plate.heldFor]
  · exact hlane

/-- An adrift plate joins the tail of a list without classes. -/
theorem Placed.joinTail (h : Placed (i :: A) s) (hA : i ∉ A) {l : WaitList} (hl : l ≠ .exposure)
    (hs : (s.plate i).Sound) (hst : (s.plate i).state.waitList = some l) (hlane : (s.plate i).lane = none) :
    Placed A (s.joinTail l i) := by
  have hi := (h.adrift i (List.mem_cons_self ..)).unlisted l
  refine (h.landListed hA hs hst hlane (q := s.waitList l ++ [i]) ?_ (fun j => by simp [or_comm])
    fun e => absurd e hl).of_places (places_fillList ..)
  rw [List.nodup_append]
  exact ⟨h.tables.nodup l, by simp, by simp only [List.mem_singleton]; rintro a ha b rfl rfl; exact hi ha⟩

/-- A waiting plate leaves its own list. -/
theorem Placed.liftOwn (h : Placed A s) (hi : i ∉ A) (hs : (s.plate i).state.isWaiting = true) :
    Placed (i :: A) (s.leaveOwnList i) := by
  unfold State.leaveOwnList
  split
  next l hl => exact h.liftListed hi hl
  next hn => cases hst : (s.plate i).state <;> simp_all [PlateState.waitList, PlateState.isWaiting]

theorem leaveOwnList_plate (s : State) (i j : Slot) : (s.leaveOwnList i).plate j = s.plate j := by
  unfold State.leaveOwnList
  split
  · simp [State.leaveList]
  · rfl

/-! ### The exposure queue's two classes (R62, R63) -/

/-- The queue q' is q with plate i in it, rush plates first. -/
structure Joined (s : State) (i : Slot) (q q' : List Slot) : Prop where
  nodup : q'.Nodup
  mem : ∀ j, j ∈ q' ↔ j = i ∨ j ∈ q
  rush : q'.Pairwise (fun i j => (s.plate j).rush = true → (s.plate i).rush = true)

theorem rushPart_append_normalPart (s : State) (q : List Slot) : q = s.rushPart q ++ s.normalPart q :=
  List.takeWhile_append_dropWhile.symm

theorem rush_of_mem_rushPart {q : List Slot} {j : Slot} (h : j ∈ s.rushPart q) : (s.plate j).rush = true :=
  List.mem_takeWhile_imp (p := fun j => (s.plate j).rush) h

/-- The plates from the first normal plate on are all normal. -/
theorem normal_of_mem_normalPart {q : List Slot}
    (hr : q.Pairwise (fun i j => (s.plate j).rush = true → (s.plate i).rush = true)) {j : Slot}
    (h : j ∈ s.normalPart q) : (s.plate j).rush = false := by
  unfold State.normalPart at h
  cases hn : q.dropWhile (fun j => (s.plate j).rush) with
  | nil => rw [hn] at h; cases h
  | cons a l =>
    have ha : (s.plate a).rush = false := by
      have := List.head_dropWhile_not (fun j => (s.plate j).rush) (l := q) (by rw [hn]; simp)
      simpa [hn] using this
    have hp : (a :: l).Pairwise (fun i j => (s.plate j).rush = true → (s.plate i).rush = true) :=
      hn ▸ hr.sublist (List.dropWhile_sublist _)
    rw [hn] at h
    rcases List.mem_cons.mp h with rfl | h
    · exact ha
    · cases hj : (s.plate j).rush
      · rfl
      · rw [(List.pairwise_cons.mp hp).1 j h hj] at ha; cases ha

section
variable {q : List Slot} (hq : q.Nodup)
  (hr : q.Pairwise (fun i j => (s.plate j).rush = true → (s.plate i).rush = true)) (hi : i ∉ q)
include hq hr hi

theorem Joined.between {r n : List Slot} (h : q = r ++ n) (hri : ∀ j ∈ r, (s.plate i).rush = true → (s.plate j).rush = true)
    (hin : ∀ j ∈ n, (s.plate j).rush = true → (s.plate i).rush = true) : Joined s i q (r ++ i :: n) := by
  subst h
  obtain ⟨hqr, hqn, hdisj⟩ := List.nodup_append.mp hq
  obtain ⟨hrr, hrn, hcross⟩ := List.pairwise_append.mp hr
  obtain ⟨hir, hin'⟩ := not_or.mp (mt List.mem_append.mpr hi)
  refine ⟨List.nodup_append.mpr ⟨hqr, List.nodup_cons.mpr ⟨hin', hqn⟩, ?_⟩, fun j => ?_,
    List.pairwise_append.mpr ⟨hrr, List.pairwise_cons.mpr ⟨hin, hrn⟩, ?_⟩⟩
  · rintro a ha b hb rfl
    rcases List.mem_cons.mp hb with rfl | hb
    · exact hir ha
    · exact hdisj a ha a hb rfl
  · simp only [List.mem_append, List.mem_cons]
    exact or_left_comm
  · intro a ha b hb
    rcases List.mem_cons.mp hb with rfl | hb
    · exact hri a ha
    · exact hcross a ha b hb

theorem Joined.classTail : Joined s i q (s.atClassTail q i) := by
  unfold State.atClassTail
  split
  next h =>
    exact .between hq hr hi (rushPart_append_normalPart s q) (fun j hj _ => rush_of_mem_rushPart hj) fun _ _ _ => h
  next h => exact .between hq hr hi (r := q) (n := []) (by simp) (fun j _ e => absurd e h) (by simp)

theorem Joined.classHead : Joined s i q (s.atClassHead q i) := by
  unfold State.atClassHead
  split
  next h => exact .between hq hr hi (r := []) (n := q) (by simp) (by simp) fun _ _ _ => h
  next h =>
    refine .between hq hr hi (rushPart_append_normalPart s q) (fun j hj _ => rush_of_mem_rushPart hj) fun j hj e => ?_
    rw [normal_of_mem_normalPart hr hj] at e; cases e

theorem Joined.behind {a : Slot} (ha : a ∈ q) (hai : (s.plate a).rush = (s.plate i).rush) :
    Joined s i q (placeBehind a i q) := by
  obtain ⟨r, n, rfl⟩ := List.append_of_mem ha
  obtain ⟨-, -, hdisj⟩ := List.nodup_append.mp hq
  obtain ⟨-, hrn, hcross⟩ := List.pairwise_append.mp hr
  rw [placeBehind_mem fun har => hdisj a har a (List.mem_cons_self ..) rfl,
    show r ++ a :: i :: n = (r ++ [a]) ++ i :: n by simp]
  refine .between hq hr hi (by simp) (fun j hj hrush => ?_) fun j hj hrush => ?_
  · rw [← hai] at hrush
    rcases List.mem_append.mp hj with hj | hj
    · exact hcross j hj a (List.mem_cons_self ..) hrush
    · rwa [List.mem_singleton.mp hj]
  · rw [← hai]
    exact (List.pairwise_cons.mp hrn).1 j hj hrush

end

/-- An adrift plate takes a place in the exposure queue. -/
theorem Placed.joinExposure (h : Placed (i :: A) s) (hA : i ∉ A) (hs : (s.plate i).Sound)
    (hst : (s.plate i).state = .staged) (hlane : (s.plate i).lane = none) {q : List Slot}
    (hq : Joined s i s.exposureQ q) : Placed A (s.fillList .exposure q) :=
  (h.landListed (l := .exposure) hA hs (by rw [hst]; rfl) hlane hq.nodup hq.mem fun _ => hq.rush).of_places (places_fillList ..)

theorem Placed.joined_classTail (h : Placed (i :: A) s) : Joined s i s.exposureQ (s.atClassTail s.exposureQ i) :=
  .classTail (h.tables.nodup .exposure) h.tables.rushFirst ((h.adrift i (List.mem_cons_self ..)).unlisted .exposure)

theorem Placed.joined_classHead (h : Placed (i :: A) s) : Joined s i s.exposureQ (s.atClassHead s.exposureQ i) :=
  .classHead (h.tables.nodup .exposure) h.tables.rushFirst ((h.adrift i (List.mem_cons_self ..)).unlisted .exposure)

theorem Placed.joined_behind (h : Placed (i :: A) s) {a : Slot} (ha : a ∈ s.exposureQ)
    (hai : (s.plate a).rush = (s.plate i).rush) : Joined s i s.exposureQ (placeBehind a i s.exposureQ) :=
  .behind (h.tables.nodup .exposure) h.tables.rushFirst ((h.adrift i (List.mem_cons_self ..)).unlisted .exposure) ha hai

/-! ### Changes that leave the places alone -/

@[simp] theorem places_post (s : State) (p : Port) (e : Event) : (s.post p e).places = s.places := rfl

@[simp] theorem places_evaluateGate (s : State) : s.evaluateGate.places = s.places := by
  unfold State.evaluateGate
  split
  · rfl
  · have hw (l : Nat) : (s.evaluateWarn l).places = s.places := by
      unfold State.evaluateWarn
      split
      · rfl
      · split <;> rfl
    unfold State.evaluateGateState
    dsimp only
    split
    · exact hw _
    · exact hw _

theorem places_storeItem (s : State) (x : Item) (v : Nat) : (s.storeItem x v).places = s.places := by
  unfold State.storeItem State.itemChanged
  split
  · rfl
  · split
    · rw [places_evaluateGate]; rfl
    · rfl

theorem TransitEntry.tick_slot (e : TransitEntry) (i : Slot) : (e.tick i).slot = e.slot := by
  unfold TransitEntry.tick
  split <;> rfl

/-- The entries of the transit list change, and their slots do not. -/
theorem Placed.setTransit (h : Placed A s) {l : List TransitEntry}
    (hl : l.map (fun e => e.slot) = s.transit.map (fun e => e.slot)) : Placed A { s with transit := l } :=
  h.aside (h.tables.setTransit (hl ▸ h.tables.transit)) fun _ => .setTransit (by rw [hl])

/-- A drawer's cover or timer moves, and it stays DRY or not. -/
theorem Placed.modDrawer (h : Placed A s) {d : DrawerIx} {f : Drawer → Drawer}
    (hslot : (f (s.drawer d)).slot = (s.drawer d).slot)
    (hempty : (f (s.drawer d)).state = .empty ↔ (s.drawer d).state = .empty)
    (hdry : (f (s.drawer d)).state = .dry ↔ (s.drawer d).state = .dry) : Placed A (s.modDrawer d f) :=
  h.aside (h.tables.modDrawer (by rw [hempty, hslot]; exact h.tables.drawers d)) fun _ =>
    .modDrawer (by rw [hslot]) fun _ => hdry

theorem StoreDeed.placed (h : StoreDeed s t) (hs : Placed [] s) : Placed [] t := by
  cases h with
  | still => exact hs
  | clearType | storeType => exact hs.of_places rfl
  | storeItem x v => exact hs.of_places (places_storeItem ..)
  | setMass m _ => exact hs.of_places (by rw [places_evaluateGate]; rfl)
  | openDrawer d h => exact hs.modDrawer rfl (by simp [h]) (by simp [h])
  | closeDrawer d h => exact hs.modDrawer rfl (by simp [h]) (by simp [h])
  | drawerSecond d _ _ => exact hs.modDrawer rfl Iff.rfl Iff.rfl
  | overdueSecond i => exact hs.setTransit (by simp [List.map_map, Function.comp_def, TransitEntry.tick_slot])

/-! ### The light -/

theorem LightMove.waitList {P : Slot → Prop} (h : LightMove P s t) (l : WaitList) : t.waitList l = s.waitList l := by
  have h := h.rest
  cases l
  · exact (congrArg State.exposureQ h :)
  · exact (congrArg State.dryerQ h :)
  · exact (congrArg State.finisherQ h :)
  · exact (congrArg State.washQ h :)

theorem LightMove.transit {P : Slot → Prop} (h : LightMove P s t) : t.transit = s.transit :=
  (congrArg State.transit h.rest :)

theorem LightMove.drawers {P : Slot → Prop} (h : LightMove P s t) : t.drawers = s.drawers :=
  (congrArg State.drawers h.rest :)

theorem LightMove.laneOf {P : Slot → Prop} (h : LightMove P s t) (i : Slot) : t.laneOf i = s.laneOf i := by
  simp only [State.laneOf, h.laneA, h.laneB]

/-- Light that falls on no FREE slot leaves every plate where it is. -/
theorem LightMove.placed {P : Slot → Prop} (h : LightMove P s t) (hP : ∀ i, P i → (s.plate i).state ≠ .free)
    (hs : Placed [] s) : Placed [] t := by
  have hd (d : DrawerIx) : t.drawer d = s.drawer d := by simp only [State.drawer, h.drawers]
  have hq : t.exposureQ = s.exposureQ := h.waitList .exposure
  refine ⟨⟨fun l => ?_, ?_, ?_, ?_, ?_, fun d => ?_⟩, fun i hi => ?_, by simp⟩
  · rw [h.waitList]; exact hs.tables.nodup l
  · rw [hq]
    exact hs.tables.rushFirst.imp fun {a b} hab => by rw [(h.plates a).rush, (h.plates b).rush]; exact hab
  · rw [h.transit]; exact hs.tables.transit
  · rw [h.laneA, h.laneB, h.bed]; exact hs.tables.bed
  · rw [h.finisher, h.position]; exact hs.tables.position
  · rw [hd]; exact hs.tables.drawers d
  · have hp := h.plates i
    refine (hs.spots i hi).inPlace ⟨hp.state, hp.lane, hp.drawer, hp.rush, hp.heldFrom, hp.holdReason, ?_, ?_⟩ ?_ ?_
      (h.laneOf i) h.position h.drawers
    · rw [hp.holdPending]; exact .inl
    · exact fun hf => h.only i fun hPi => hP i hPi hf
    · exact fun l => by rw [h.waitList]
    · rw [h.transit]

/-- A plate in the light is on the bed or in the finisher position, and so not FREE (R79, R155). -/
theorem inLight_not_free (hs : Located s) (hp : PhasesOk s) {i : Slot} (hi : s.inLight i) :
    (s.plate i).state = .onFrame ∨ (s.plate i).state = .finishing := by
  have bed (h : i ∈ s.frame.plates) : (s.plate i).state = .onFrame :=
    (hs.onFrame i).2.mpr ((laneOf_isSome s i).mpr h)
  rcases hi with h | h | h | ⟨c, hc, h⟩
  · exact .inl (bed ((s.frame.mem_plates i).mpr (.inl h)))
  · exact .inl (bed ((s.frame.mem_plates i).mpr (.inr h)))
  · exact .inr ((hs.finishing i).mpr h)
  · have hidle : (s.chan c).state ≠ .idle := fun e => by rw [State.chanActive, e] at hc; cases hc
    cases hl : c.lane with
    | none => exact .inr ((hs.finishing i).mpr (hp.positions c hl hidle ▸ h))
    | some l =>
      have h := (hp.lanes c l hl hidle).1 ▸ h
      refine .inl (bed ((s.frame.mem_plates i).mpr ?_))
      cases l
      · exact .inl h
      · exact .inr h

theorem LightDeed.placed (h : LightDeed s t) (hs : Located s) (hp : PhasesOk s) : Placed [] t :=
  h.lightMove.placed (fun i hi e => by rcases inLight_not_free hs hp hi with h | h <;> rw [e] at h <;> cases h)
    ((located_iff s).mp hs)

end

end Sys2Proof.Machine
end

-- ==== Sys2Proof/Proofs/I ====
section
/-! Every deed on plates keeps each plate in its location, deed by deed. -/

namespace Sys2Proof.Machine

section
variable {A : List Slot} {s t : State} {i : Slot}

/-! ### HOLD, RELEASE, SCRAP, PURGE -/

theorem PlateState.asHeldFrom_eq_some {st : PlateState} {from_ : HeldFrom} (h : st.asHeldFrom = some from_) :
    st.isWaiting = true ∧ (st = .dried → from_ = .dried) := by
  cases st <;> cases h <;> simp [PlateState.isWaiting]

theorem Placed.hold (h : Placed [] s) {from_ : HeldFrom} (hf : (s.plate i).state.asHeldFrom = some from_) :
    Placed [] ((s.leaveOwnList i).modPlate i fun p => p.heldFor .operator from_) := by
  have hspot := h.spots i (by simp)
  obtain ⟨hw, hdried⟩ := PlateState.asHeldFrom_eq_some hf
  have hlane : (s.plate i).lane = none := hspot.lane_none fun e => by rw [e] at hw; cases hw
  have hl := (h.liftOwn (by simp) hw).modAdrift (List.mem_cons_self ..) (f := fun p => p.heldFor .operator from_) rfl
  refine hl.landPlain (by simp) ?_ ?_ ?_ <;> rw [State.plate_modPlate_self, leaveOwnList_plate]
  · exact Plate.heldFor_sound _ ((hspot.waiting_drawer hw).imp_right hdried)
  · simp [Plate.heldFor]
  · exact hlane

theorem Placed.pend (h : Placed [] s) (ha : (s.plate i).state.isActive = true) :
    Placed [] (s.modPlate i fun p => { p with holdPending := true }) :=
  h.modInPlace ⟨rfl, rfl, rfl, rfl, rfl, rfl, fun _ => .inr ha, fun e => by rw [e] at ha; cases ha⟩

theorem Placed.unpend (h : Placed [] s) : Placed [] (s.modPlate i fun p => { p with holdPending := false }) :=
  h.modInPlace ⟨rfl, rfl, rfl, rfl, rfl, rfl, fun e => Bool.noConfusion e, fun e => by
    have hc : s.plate i = Plate.cleared := (h.spots i (by simp)).free e
    rw [hc]
    rfl⟩

theorem Placed.release (h : Placed [] s) {dest : HeldFrom} (hs : (s.plate i).state = .held)
    (hf : (s.plate i).heldFrom = some dest) :
    Placed [] ((s.modPlate i fun p => p.released dest.state).joinReleased i dest) := by
  have hspot := h.spots i (by simp)
  have hlane : (s.plate i).lane = none := hspot.lane_none (by simp [hs])
  have hdrawer (hne : dest ≠ .dried) : (s.plate i).drawer = none :=
    hspot.drawer_none (by simp [hs]) (by simp [hs]) (fun _ => by simp [hf, hne]) (by simp [hs])
  have hm := (h.liftPlain (i := i) (by simp) (by simp [hs])).modAdrift (List.mem_cons_self ..)
    (f := fun p => p.released dest.state) rfl
  have hplate := s.plate_modPlate_self i fun p => p.released dest.state
  have hsound : ((s.plate i).released dest.state).Sound := by
    refine Plate.Unheld.sound ⟨rfl, rfl, hspot.not_pending (by rw [hs]; rfl)⟩ ?_ ?_ ?_
    · cases dest <;> simp [Plate.released, HeldFrom.state]
    · cases dest <;> simp [Plate.released, HeldFrom.state]
    · by_cases hd : dest = .dried
      · exact .inr (.inl (by subst hd; rfl))
      · exact .inl (hdrawer hd)
  rw [← hplate] at hsound
  have hst : ((s.modPlate i fun p => p.released dest.state).plate i).state = dest.state := by rw [hplate]; rfl
  have hln : ((s.modPlate i fun p => p.released dest.state).plate i).lane = none := by rw [hplate]; exact hlane
  cases dest with
  | staged => exact hm.joinExposure (by simp) hsound hst hln hm.joined_classTail
  | exposed => exact hm.joinTail (by simp) (by simp) hsound (by rw [hst]; rfl) hln
  | washed => exact hm.joinTail (by simp) (by simp) hsound (by rw [hst]; rfl) hln
  | dried => exact hm.joinTail (by simp) (by simp) hsound (by rw [hst]; rfl) hln
  | done => exact hm.landPlain (by simp) hsound (by rw [hst]; simp [HeldFrom.state]) hln

theorem Placed.scrap (h : Placed [] s) (hs : (s.plate i).state.isWaiting = true ∨ (s.plate i).state = .held) :
    Placed [] ((s.leaveOwnList i).modPlate i fun p => p.released .scrapped) := by
  have hspot := h.spots i (by simp)
  have hl : Placed [i] (s.leaveOwnList i) := by
    rcases hs with hs | hs
    · exact h.liftOwn (by simp) hs
    · rw [State.leaveOwnList, hs]
      exact h.liftPlain (by simp) (by simp [hs])
  have hactive : (s.plate i).state.isActive = false := by
    cases hst : (s.plate i).state <;> simp_all [PlateState.isWaiting, PlateState.isActive]
  have hm := hl.modAdrift (List.mem_cons_self ..) (f := fun p => p.released .scrapped) rfl
  refine hm.landPlain (by simp) ?_ ?_ ?_ <;> rw [State.plate_modPlate_self, leaveOwnList_plate]
  · exact Plate.Unheld.sound ⟨rfl, rfl, hspot.not_pending hactive⟩ (by simp [Plate.released]) (by simp [Plate.released])
      (.inr (.inr rfl))
  · simp [Plate.released]
  · exact hspot.lane_none fun e => by rw [e] at hactive; cases hactive

theorem Plate.cleared_sound : Plate.cleared.Sound := ⟨by simp [Plate.cleared], by simp [Plate.cleared],
  by simp [Plate.cleared], fun _ => rfl, .inl rfl⟩

theorem Placed.purge (h : Placed [] s) (hs : (s.plate i).state = .done ∨ (s.plate i).state = .scrapped)
    (hr : s.referenced i = false) : Placed [] (s.modPlate i fun _ => Plate.cleared) := by
  have hdrawer : (s.plate i).drawer = none := by
    refine Option.eq_none_iff_forall_ne_some.mpr fun d hd => ?_
    have hslot := ((h.spots i (by simp)).referenced d).mp hd
    have hmem : s.drawer d ∈ s.drawers.toList := Vector.mem_toList_iff.mpr (Vector.getElem_mem ..)
    have : s.referenced i = true := List.any_eq_true.mpr ⟨_, hmem, by simp [hslot]⟩
    rw [hr] at this; cases this
  have hm := (h.liftPlain (i := i) (by simp) (by rcases hs with hs | hs <;> simp [hs])).modAdrift (List.mem_cons_self ..)
    (f := fun _ => Plate.cleared) hdrawer.symm
  refine hm.landPlain (by simp) ?_ ?_ ?_ <;> rw [State.plate_modPlate_self]
  · exact Plate.cleared_sound
  · simp [Plate.cleared]
  · rfl

/-! ### STAGE_LOT -/

theorem stagedPlate_sound (ix : Fin 16) (r : TypeRec) (lot : LotImage) (k : Nat) : (stagedPlate ix r lot k).Sound :=
  Plate.Unheld.sound ⟨rfl, rfl, rfl⟩ (by simp [stagedPlate]) (by simp [stagedPlate]) (.inl rfl)

theorem Placed.fillCopies {mk : Nat → Plate} (hmk : ∀ k, (mk k).drawer = none) {slots : List Slot} {n : Nat}
    (hA : ∀ i ∈ slots, i ∈ A) (hd : ∀ i ∈ slots, (s.plate i).drawer = none) (h : Placed A s) :
    Placed A (s.fillCopies mk n slots) := by
  induction slots generalizing n s with
  | nil => exact h
  | cons j rest ih =>
    have hj := List.mem_cons_self (a := j) (l := rest)
    refine ih (fun i hi => hA i (List.mem_cons_of_mem _ hi)) (fun i hi => ?_)
      (h.modAdrift (hA j hj) (f := fun _ => mk n) ((hmk n).trans (hd j hj).symm))
    by_cases e : i = j
    · subst e; rw [State.plate_modPlate_self]; exact hmk n
    · rw [State.plate_modPlate_ne _ _ e]; exact hd i (List.mem_cons_of_mem _ hi)

/-- Adrift copies join the exposure queue one by one. -/
theorem Placed.queueCopies {slots : List Slot} (hn : slots.Nodup) (hs : ∀ i ∈ slots, (s.plate i).Sound)
    (hst : ∀ i ∈ slots, (s.plate i).state = .staged) (hlane : ∀ i ∈ slots, (s.plate i).lane = none) {q : List Slot}
    (h : Placed slots (s.setWaitList .exposure q)) :
    Placed [] (s.setWaitList .exposure (slots.foldl (fun q i => s.atClassTail q i) q)) := by
  induction slots generalizing q with
  | nil => exact h
  | cons j rest ih =>
    obtain ⟨hj, hrest⟩ := List.nodup_cons.mp hn
    have hmem := List.mem_cons_self (a := j) (l := rest)
    refine ih hrest (fun i hi => hs i (List.mem_cons_of_mem _ hi)) (fun i hi => hst i (List.mem_cons_of_mem _ hi))
      (fun i hi => hlane i (List.mem_cons_of_mem _ hi)) ?_
    refine (h.joinExposure hj (hs j hmem) (hst j hmem) (hlane j hmem) h.joined_classTail).of_places ?_
    rw [places_fillList]
    rfl

theorem Placed.stage (h : Placed [] s) {mk : Nat → Plate} {slots : List Slot} (hn : slots.Nodup)
    (hfree : ∀ i ∈ slots, (s.plate i).state = .free) (hs : ∀ k, (mk k).Sound) (hst : ∀ k, (mk k).state = .staged)
    (hlane : ∀ k, (mk k).lane = none) (hd : ∀ k, (mk k).drawer = none) : Placed [] (s.stage mk slots) := by
  have hl : Placed slots s := by
    refine ⟨h.tables, fun i _ => h.spots i (by simp), fun i hi => ?_⟩
    exact (h.liftPlain (i := i) (by simp) (by simp [hfree i hi])).adrift i (List.mem_cons_self ..)
  have hf : Placed slots (s.fillCopies mk 0 slots) := hl.fillCopies hd (fun i hi => hi) fun i hi => by
    rw [(h.spots i (by simp)).free (hfree i hi)]; rfl
  have hp (i : Slot) (hi : i ∈ slots) := fillCopies_of_mem (mk := mk) hi hn 0 s
  refine (Placed.queueCopies hn (fun i hi => ?_) (fun i hi => ?_) (fun i hi => ?_)
    (q := (s.fillCopies mk 0 slots).exposureQ) (hf.of_places rfl)).of_places (places_fillList ..)
  · rw [hp i hi]; exact hs _
  · rw [hp i hi]; exact hst _
  · rw [hp i hi]; exact hlane _

/-! ### LOAD_REQ -/

/-- The bed is loaded with the plates that are adrift. -/
theorem Placed.landBed (h : Placed A s) (hempty : s.frame.laneA.slot = none ∧ s.frame.laneB.slot = none) {u : FrameUnit}
    (hu : u.state = .empty ↔ u.laneA.slot = none) (hb : u.laneA.slot = none → u.laneB.slot = none)
    (hA : ∀ j, j ∈ u.plates ↔ j ∈ A) (hs : ∀ j ∈ A, (s.plate j).Sound) (hst : ∀ j ∈ A, (s.plate j).state = .onFrame)
    (hlane : ∀ j ∈ A, (s.plate j).lane = State.laneOf { s with frame := u } j) : Placed [] { s with frame := u } := by
  have hiff (j : Slot) : (State.laneOf { s with frame := u } j).isSome = true ↔ j ∈ A :=
    (laneOf_isSome _ j).trans (hA j)
  refine ⟨h.tables.setFrame hu hb, fun j _ => ?_, by simp⟩
  by_cases hj : j ∈ A
  · have ha := h.adrift j hj
    refine ha.spot (hs j hj) ?_ rfl rfl (fun l => ?_) ?_ (hlane j hj) ?_ ?_
    · change (s.plate j).state ≠ .drying
      simp [hst j hj]
    · have : j ∉ State.waitList { s with frame := u } l := by have := ha.unlisted l; cases l <;> exact this
      change _ ↔ (s.plate j).state.waitList = some l
      rw [hst j hj]
      simp [this, PlateState.waitList]
    · change j ∈ s.transit.map _ ↔ (s.plate j).state = .washing
      simp only [ha.transit, hst j hj]; simp
    · exact iff_of_true (hst j hj) ((hiff j).mpr hj)
    · change (s.plate j).state = .finishing ↔ s.finisher.slot = some j
      simp [hst j hj, ha.position]
  · refine (h.spots j hj).aside (.setFrame ?_)
    rw [Option.not_isSome_iff_eq_none.mp (mt (hiff j).mp hj)]
    simp [State.laneOf, hempty]

/-- A staged plate leaves the exposure queue for the frame. -/
theorem Placed.placeOnFrame (h : Placed A s) (hi : i ∉ A) (hs : (s.plate i).state = .staged) (lane : LanePlace) :
    Placed (i :: A) (s.placeOnFrame i lane) ∧ ((s.placeOnFrame i lane).plate i).Sound
      ∧ ((s.placeOnFrame i lane).plate i).state = .onFrame ∧ ((s.placeOnFrame i lane).plate i).lane = some lane := by
  have hspot := h.spots i hi
  have hplate : (s.placeOnFrame i lane).plate i = { s.plate i with state := .onFrame, lane := some lane } := by
    rw [State.placeOnFrame, State.plate_modPlate_self, State.leaveList, State.setWaitList_plate]
  refine ⟨(h.liftListed hi (by rw [hs]; rfl)).modAdrift (List.mem_cons_self ..) rfl, ?_, by rw [hplate], by rw [hplate]⟩
  rw [hplate]
  obtain ⟨hf, hr⟩ := hspot.not_held (by simp [hs])
  exact Plate.Unheld.sound ⟨hf, hr, hspot.not_pending (by rw [hs]; rfl)⟩ (by simp) (by simp)
    (.inl ((hspot.waiting_drawer (by rw [hs]; rfl)).resolve_right (by simp [hs])))

theorem placeOnFrame_plate_ne {j : Slot} (hj : j ≠ i) (lane : LanePlace) :
    (s.placeOnFrame i lane).plate j = s.plate j := by
  rw [State.placeOnFrame, State.plate_modPlate_ne _ _ hj, State.leaveList, State.setWaitList_plate]

theorem Tables.bed_empty (h : Tables s) (he : s.frame.state = .empty) :
    s.frame.laneA.slot = none ∧ s.frame.laneB.slot = none := ⟨h.bed.1.mp he, h.bed.2 (h.bed.1.mp he)⟩

theorem Placed.staged_of_mem (h : Placed [] s) (hi : i ∈ s.exposureQ) : (s.plate i).state = .staged :=
  (PlateState.waitList_eq_iff _ _).mp (((h.spots i (by simp)).listed .exposure).mp hi)

theorem Placed.loadWide (h : Placed [] s) (he : s.frame.state = .empty) (hi : i ∈ s.exposureQ) :
    Placed [] ((s.placeOnFrame i .both).bedLoaded (some i) (some i)) := by
  obtain ⟨hp, hsound, hst, hlane⟩ := h.placeOnFrame (by simp) (h.staged_of_mem hi) .both
  refine hp.landBed (h.tables.bed_empty he) (by simp) (by simp) (by simp [FrameUnit.plates, FrameUnit.isWide])
    ?_ ?_ ?_ <;> simp only [List.mem_singleton, forall_eq]
  · exact hsound
  · exact hst
  · rw [hlane]; simp [State.laneOf]

theorem Placed.loadOne (h : Placed [] s) (he : s.frame.state = .empty) (hi : i ∈ s.exposureQ) :
    Placed [] ((s.placeOnFrame i .a).bedLoaded (some i) none) := by
  obtain ⟨hp, hsound, hst, hlane⟩ := h.placeOnFrame (by simp) (h.staged_of_mem hi) .a
  refine hp.landBed (h.tables.bed_empty he) (by simp) (by simp) (by simp [FrameUnit.plates, FrameUnit.isWide])
    ?_ ?_ ?_ <;> simp only [List.mem_singleton, forall_eq]
  · exact hsound
  · exact hst
  · rw [hlane]; simp [State.laneOf]

theorem Placed.loadPair (h : Placed [] s) (he : s.frame.state = .empty) {j : Slot} {behind : List Slot}
    (hq : s.exposureQ = i :: behind) (hj : j ∈ behind) :
    Placed [] (((s.placeOnFrame i .a).placeOnFrame j .b).bedLoaded (some i) (some j)) := by
  have hnd : (i :: behind).Nodup := hq ▸ h.tables.nodup .exposure
  have hji : j ≠ i := fun e => (List.nodup_cons.mp hnd).1 (e ▸ hj)
  obtain ⟨hp, hsound, hst, hlane⟩ := h.placeOnFrame (by simp) (h.staged_of_mem (i := i) (by simp [hq])) .a
  have hstj := h.staged_of_mem (i := j) (by simp [hq, hj])
  rw [← placeOnFrame_plate_ne hji .a] at hstj
  obtain ⟨hp', hsound', hst', hlane'⟩ := hp.placeOnFrame (by simpa using hji) hstj .b
  have hplate := placeOnFrame_plate_ne (s := s.placeOnFrame i .a) (Ne.symm hji) .b
  refine hp'.landBed (h.tables.bed_empty he) (by simp) (by simp)
    (by simp [FrameUnit.plates, FrameUnit.isWide, Ne.symm hji, or_comm]) ?_ ?_ ?_
    <;> simp only [List.mem_cons, List.not_mem_nil, or_false, forall_eq_or_imp, forall_eq, hplate]
  · exact ⟨hsound', hsound⟩
  · exact ⟨hst', hst⟩
  · rw [hlane, hlane']
    simp [State.laneOf, hji, Ne.symm hji]

/-! ### UNLOAD and FRAME_ABORT -/

/-- The state with another frame record. -/
def State.withFrame (s : State) (u : FrameUnit) : State := { s with frame := u }

theorem announce_withFrame (s : State) (u : FrameUnit) (l : WaitList) (b : Bool) :
    (s.withFrame u).announce l b = (s.announce l b).withFrame u := by cases b <;> rfl

theorem fillList_withFrame (s : State) (u : FrameUnit) (l : WaitList) (q : List Slot) :
    (s.withFrame u).fillList l q = (s.fillList l q).withFrame u := by
  cases l with
  | exposure => exact announce_withFrame (s.setWaitList .exposure q) u ..
  | wash => exact announce_withFrame (s.setWaitList .wash q) u ..
  | dryer => exact announce_withFrame (s.setWaitList .dryer q) u ..
  | finisher => exact announce_withFrame (s.setWaitList .finisher q) u ..

theorem settleUnloaded_withFrame (s : State) (u : FrameUnit) (i : Slot) (lane : Lane) :
    (s.withFrame u).settleUnloaded i lane = (s.settleUnloaded i lane).withFrame u := by
  have hp : ((s.withFrame u).plate i).holdPending = (s.plate i).holdPending := rfl
  unfold State.settleUnloaded
  rw [hp]
  cases lane.failure with
  | true => rfl
  | false =>
    cases lane.short with
    | true => rfl
    | false =>
      cases (s.plate i).holdPending with
      | true => rfl
      | false => exact fillList_withFrame ((s.offLane i).modPlate i fun p => p.inState .exposed) u ..

theorem undoLane_withFrame (s : State) (u : FrameUnit) (ahead : Option Slot) (i : Slot) :
    (s.withFrame u).undoLane ahead i = (s.undoLane ahead i).withFrame u := by
  have hp : ((s.withFrame u).plate i).holdPending = (s.plate i).holdPending := rfl
  unfold State.undoLane
  rw [hp]
  cases (s.plate i).holdPending with
  | true => rfl
  | false => exact fillList_withFrame ((s.offLane i).modPlate i fun p => p.inState .staged) u ..

theorem foldl_holdAborted_withFrame (s : State) (u : FrameUnit) (l : List Slot) :
    l.foldl State.holdAborted (s.withFrame u) = (l.foldl State.holdAborted s).withFrame u := by
  induction l generalizing s with
  | nil => rfl
  | cons i l ih => exact ih (s.holdAborted i)

theorem places_clearBed (s : State) : s.clearBed.places = (s.withFrame {}).places := rfl

/-- A plate that leaves the bed: still ON_FRAME in its record, in no drawer, and not HELD. -/
structure Plate.OffBed (p : Plate) : Prop where
  state : p.state = .onFrame
  drawer : p.drawer = none
  heldFrom : p.heldFrom = none
  holdReason : p.holdReason = none

theorem Placed.offBed (h : Placed [] s) (hi : i ∈ s.frame.plates) : (s.plate i).OffBed := by
  have hspot := h.spots i (by simp)
  have hst := hspot.onFrame.mpr ((laneOf_isSome s i).mpr hi)
  obtain ⟨hf, hr⟩ := hspot.not_held (by simp [hst])
  exact ⟨hst, hspot.onFrame_drawer hst, hf, hr⟩

theorem holdAtStep_plate_ne {j : Slot} (hj : j ≠ i) (reason : HoldReason) (from_ : HeldFrom) (p : Port) :
    (s.holdAtStep i reason from_ p).plate j = s.plate j := by
  rw [State.holdAtStep, State.post_plate, State.post_plate, State.plate_modPlate_ne _ _ hj]

theorem offLane_plate_ne {j : Slot} (hj : j ≠ i) : (s.offLane i).plate j = s.plate j := State.plate_modPlate_ne _ _ hj

theorem Placed.offLane (h : Placed (i :: A) s) : Placed (i :: A) (s.offLane i) :=
  h.modAdrift (List.mem_cons_self ..) rfl

theorem Placed.holdOffLane (h : Placed (i :: A) s) (hA : i ∉ A) (hb : (s.plate i).OffBed) (reason : HoldReason)
    (from_ : HeldFrom) (p : Port) : Placed A ((s.offLane i).holdAtStep i reason from_ p) := by
  have hplate : (s.offLane i).plate i = { s.plate i with lane := none } := State.plate_modPlate_self ..
  exact h.offLane.holdAtStep hA (by rw [hplate]) (.inl (by rw [hplate]; exact hb.drawer)) p

/-- A plate without a hold leaves its lane and is to join a list. -/
theorem Placed.offLane_inState (h : Placed (i :: A) s) (hb : (s.plate i).OffBed) (hp : (s.plate i).holdPending = false)
    {st : PlateState} (hh : st ≠ .held) (hf : st ≠ .free) :
    Placed (i :: A) ((s.offLane i).modPlate i fun p => p.inState st)
      ∧ (((s.offLane i).modPlate i fun p => p.inState st).plate i).Sound
      ∧ (((s.offLane i).modPlate i fun p => p.inState st).plate i).state = st
      ∧ (((s.offLane i).modPlate i fun p => p.inState st).plate i).lane = none := by
  refine ⟨h.offLane.modAdrift (List.mem_cons_self ..) rfl, ?_, ?_, ?_⟩ <;>
    rw [State.plate_modPlate_self, State.offLane, State.plate_modPlate_self]
  · exact Plate.Unheld.sound ⟨hb.heldFrom, hb.holdReason, hp⟩ hh hf (.inl hb.drawer)
  · rfl
  · rfl

theorem Placed.settleUnloaded (h : Placed (i :: A) s) (hA : i ∉ A) (hb : (s.plate i).OffBed) (lane : Lane) :
    Placed A (s.settleUnloaded i lane) := by
  unfold State.settleUnloaded
  split
  · exact h.holdOffLane hA hb ..
  split
  · exact h.holdOffLane hA hb ..
  split
  · exact h.holdOffLane hA hb ..
  next hp =>
    obtain ⟨hm, hs, hst, hl⟩ := h.offLane_inState hb (eq_false_of_ne_true hp) (st := .exposed) (by simp) (by simp)
    exact hm.joinTail hA (by simp) hs (by rw [hst]; rfl) hl

theorem settleUnloaded_plate_ne {j : Slot} (hj : j ≠ i) (lane : Lane) :
    (s.settleUnloaded i lane).plate j = s.plate j := by
  unfold State.settleUnloaded
  split
  · rw [holdAtStep_plate_ne hj, offLane_plate_ne hj]
  split
  · rw [holdAtStep_plate_ne hj, offLane_plate_ne hj]
  split
  · rw [holdAtStep_plate_ne hj, offLane_plate_ne hj]
  · rw [State.joinTail, fillList_plate, State.plate_modPlate_ne _ _ hj, offLane_plate_ne hj]

/-- Lane A holds a plate, and lane B none, the same or another (R78). -/
theorem FrameUnit.lanes_cases {u : FrameUnit} {i : Slot} (ha : u.laneA.slot = some i) :
    (u.plates = [i] ∧ u.unloadLaneB.slot = none) ∨ ∃ j, j ≠ i ∧ u.laneB.slot = some j ∧ u.unloadLaneB = u.laneB
      ∧ u.plates = [i, j] := by
  unfold FrameUnit.plates FrameUnit.unloadLaneB FrameUnit.isWide
  cases hb : u.laneB.slot with
  | none => simp [ha, hb]
  | some j =>
    by_cases e : i = j
    · subst e; simp [ha]
    · exact .inr ⟨j, Ne.symm e, rfl, by simp [ha, e], by simp [ha, e]⟩

theorem Placed.laneA_loaded (h : Placed A s) (hs : s.frame.state ≠ .empty) : ∃ i, s.frame.laneA.slot = some i :=
  Option.ne_none_iff_exists'.mp fun e => hs (h.tables.bed.1.mpr e)

theorem Placed.unload (h : Placed [] s) (hs : s.frame.state = .faceEnd) :
    Placed [] ((s.settleLane s.frame.laneA).settleLane s.frame.unloadLaneB).clearBed := by
  obtain ⟨i, ha⟩ := h.laneA_loaded (by simp [hs])
  have hl : Placed s.frame.plates (s.withFrame {}) := h.liftBed
  have hA : s.settleLane s.frame.laneA = s.settleUnloaded i s.frame.laneA := by simp only [State.settleLane, ha]
  rw [hA]
  rcases FrameUnit.lanes_cases (u := s.frame) ha with ⟨hp, hb⟩ | ⟨j, hji, hb, hu, hp⟩
  · have hB (t : State) : t.settleLane s.frame.unloadLaneB = t := by simp only [State.settleLane, hb]
    rw [hp] at hl
    have := hl.settleUnloaded (by simp) (h.offBed (by simp [hp])) s.frame.laneA
    rw [settleUnloaded_withFrame] at this
    rw [hB]
    exact this.of_places (places_clearBed _)
  · have hB (t : State) : t.settleLane s.frame.unloadLaneB = t.settleUnloaded j s.frame.laneB := by
      simp only [State.settleLane, hu, hb]
    rw [hp] at hl
    have h1 := hl.settleUnloaded (by simpa using Ne.symm hji) (h.offBed (by simp [hp])) s.frame.laneA
    have hj : (((s.withFrame {}).settleUnloaded i s.frame.laneA).plate j).OffBed := by
      rw [settleUnloaded_plate_ne hji]
      exact h.offBed (by simp [hp])
    have h2 := h1.settleUnloaded (by simp) hj s.frame.laneB
    rw [settleUnloaded_withFrame, settleUnloaded_withFrame] at h2
    rw [hB]
    exact h2.of_places (places_clearBed _)

/-- A plate goes back to the exposure queue, or is HELD by a pending hold (R11, R63, R89). -/
theorem Placed.undoLane (h : Placed (i :: A) s) (hA : i ∉ A) (hb : (s.plate i).OffBed) {ahead : Option Slot}
    (ha : ∀ a ∈ ahead, a ∈ s.exposureQ) : Placed A (s.undoLane ahead i) := by
  unfold State.undoLane
  split
  · exact h.holdOffLane hA hb ..
  next hp =>
    obtain ⟨hm, hs, hst, hl⟩ := h.offLane_inState hb (eq_false_of_ne_true hp) (st := .staged) (by simp) (by simp)
    refine hm.joinExposure hA hs hst hl ?_
    unfold State.returnedQueue
    split
    next a =>
      split
      next hr => exact hm.joined_behind (ha a rfl) hr
      · exact hm.joined_classHead
    · exact hm.joined_classHead

theorem undoLane_plate_ne {j : Slot} (hj : j ≠ i) (ahead : Option Slot) :
    (s.undoLane ahead i).plate j = s.plate j := by
  unfold State.undoLane
  split
  · rw [holdAtStep_plate_ne hj, offLane_plate_ne hj]
  · rw [fillList_plate, State.plate_modPlate_ne _ _ hj, offLane_plate_ne hj]

theorem mem_undoLane_exposureQ (h : Placed (i :: A) s) (hp : (s.plate i).holdPending = false) :
    i ∈ (s.undoLane none i).exposureQ := by
  have hh : ∀ (t : State) (q : List Slot), (t.fillList .exposure q).exposureQ = q := fun t q => by
    simp [State.fillList, State.setWaitList]
  rw [State.undoLane, if_neg (by simp [hp]), hh]
  simp only [State.returnedQueue]
  have ha := h.modAdrift (List.mem_cons_self ..) (f := fun p => { p with lane := none, state := .staged }) rfl
  unfold State.atClassHead
  split <;> simp

theorem undoLoad_one (hp : s.frame.plates = [i]) : s.undoLoad = s.undoLane none i := by
  rw [State.undoLoad, hp]

theorem undoLoad_two {j : Slot} (hp : s.frame.plates = [i, j]) :
    s.undoLoad = (s.undoLane none i).undoLane (if (s.plate i).holdPending then none else some i) j := by
  rw [State.undoLoad, hp]

theorem Placed.undoLoad (h : Placed [] s) (hs : s.frame.state = .loaded) : Placed [] { s.undoLoad with frame := {} } := by
  obtain ⟨i, ha⟩ := h.laneA_loaded (by simp [hs])
  have hl : Placed s.frame.plates (s.withFrame {}) := h.liftBed
  rcases FrameUnit.lanes_cases (u := s.frame) ha with ⟨hp, -⟩ | ⟨j, hji, -, -, hp⟩
  · rw [undoLoad_one hp]
    rw [hp] at hl
    have h1 := hl.undoLane (by simp) (h.offBed (by simp [hp])) (ahead := none) (by simp)
    rw [undoLane_withFrame] at h1
    exact h1
  · rw [undoLoad_two hp]
    rw [hp] at hl
    have h1 := hl.undoLane (by simpa using Ne.symm hji) (h.offBed (by simp [hp])) (ahead := none) (by simp)
    have hj : (((s.withFrame {}).undoLane none i).plate j).OffBed := by
      rw [undoLane_plate_ne hji]
      exact h.offBed (by simp [hp])
    have h2 := h1.undoLane (by simp) hj (ahead := if (s.plate i).holdPending then none else some i) ?_
    · rw [undoLane_withFrame, undoLane_withFrame] at h2
      exact h2
    · intro a haa
      split at haa
      · cases haa
      next hpend =>
        cases haa
        exact mem_undoLane_exposureQ (s := s.withFrame {}) (i := i) (A := [j]) hl (eq_false_of_ne_true hpend)

theorem Placed.holdAborted {l : List Slot} (hn : l.Nodup) (h : Placed l s) (hb : ∀ i ∈ l, (s.plate i).OffBed) :
    Placed [] (l.foldl State.holdAborted s) := by
  induction l generalizing s with
  | nil => exact h
  | cons i l ih =>
    obtain ⟨hi, hn⟩ := List.nodup_cons.mp hn
    refine ih hn (h.holdOffLane hi (hb i (List.mem_cons_self ..)) ..) fun j hj => ?_
    have hji : j ≠ i := fun e => hi (e ▸ hj)
    rw [State.holdAborted, holdAtStep_plate_ne hji, offLane_plate_ne hji]
    exact hb j (List.mem_cons_of_mem _ hj)

theorem FrameUnit.plates_nodup (u : FrameUnit) : u.plates.Nodup := by
  unfold FrameUnit.plates FrameUnit.isWide
  cases ha : u.laneA.slot <;> cases hb : u.laneB.slot <;> simp
  split <;> simp_all

/-- The channels of a load broken off count for the plates on the bed alone. -/
theorem LightMove.abortLoad (s : State) :
    LightMove s.inLight s ([Chan.backA, .backB, .faceA, .faceB].foldl State.abortRun s) :=
  LightMove.foldl _ fun _ ht c _ =>
    .abortRun (ht.active_mem fun hc _ hi => .inr (.inr (.inr ⟨c, hc, hi⟩)))

/-- The plates of a bed whose channels have stopped are HELD, and the bed is emptied. -/
theorem Placed.holdBed (h : Placed [] s) {l : List Slot} (hl : l = s.frame.plates) :
    Placed [] (l.foldl State.holdAborted s).clearBed := by
  subst hl
  have hl : Placed s.frame.plates (s.withFrame {}) := h.liftBed
  have := Placed.holdAborted (FrameUnit.plates_nodup _) hl fun i hi => h.offBed hi
  rw [foldl_holdAborted_withFrame] at this
  exact this.of_places (places_clearBed _)

theorem FrameUnit.plates_congr {u v : FrameUnit} (ha : v.laneA.slot = u.laneA.slot)
    (hb : v.laneB.slot = u.laneB.slot) :
    u.plates = v.plates := by
  rw [FrameUnit.plates, FrameUnit.plates, FrameUnit.isWide, FrameUnit.isWide, ha, hb]

theorem Placed.breakOffLoad (hs : Located s) (hp : PhasesOk s) : Placed [] s.breakOffLoad := by
  have hm := LightMove.abortLoad s
  have hfree (i : Slot) (hi : s.inLight i) : (s.plate i).state ≠ .free := fun e => by
    rcases inLight_not_free hs hp hi with h | h <;> rw [e] at h <;> cases h
  exact (hm.placed hfree ((located_iff s).mp hs)).holdBed (FrameUnit.plates_congr hm.laneA hm.laneB)

/-! ### WASH_CLAIM, WASH_DONE, WASH_FAULT and the overdue timer -/

theorem Placed.claim (h : Placed [] s) (hi : (s.plate i).state = .exposed ∨ i ∈ s.washQ) : Placed [] (s.claim i).1 := by
  have hspot := h.spots i (by simp)
  have hst : (s.plate i).state = .exposed :=
    hi.elim id fun hi => (PlateState.waitList_eq_iff _ _).mp ((hspot.listed .wash).mp hi)
  obtain ⟨hf, hr⟩ := hspot.not_held (by simp [hst])
  have hm := (h.liftListed (i := i) (by simp) (by rw [hst]; rfl)).modAdrift (List.mem_cons_self ..)
    (f := fun p => { p with
      state := .washing
      speed := some (clampSpeed (s.item .vMin) (s.item .vMax) (s.speedFor i))
      marks := (p.marks.addIf (decide (s.speedFor i < s.item .vMin)) .washShort).addIf
        (decide (s.item .vMax < s.speedFor i)) .washLong }) rfl
  refine (hm.landTransit (by simp) ?_ ?_ ?_ (overdueTime (s.item .brushLen)
    (clampSpeed (s.item .vMin) (s.item .vMax) (s.speedFor i)) (s.item .washTail)) false).of_places rfl
    <;> rw [State.plate_modPlate_self, State.leaveList, State.setWaitList_plate]
  · exact Plate.Unheld.sound ⟨hf, hr, hspot.not_pending (by rw [hst]; rfl)⟩ (by simp) (by simp)
      (.inl ((hspot.waiting_drawer (by rw [hst]; rfl)).resolve_right (by simp [hst])))
  · exact hspot.lane_none (by simp [hst])

/-- What WASH_DONE and WASH_FAULT begin with: the plate leaves transit, and its mass is booked. -/
theorem Placed.leaveWash (h : Placed [] s) (hi : s.inTransit i = true) :
    Placed [i] ((s.leaveTransit i).book i) ∧ (s.plate i).state = .washing
      ∧ (((s.leaveTransit i).book i).plate i) = { s.plate i with massCounted := true } := by
  have hspot := h.spots i (by simp)
  have hst : (s.plate i).state = .washing := hspot.washing.mp (by simpa [State.inTransit] using hi)
  have hl := h.liftTransit (by simp) hst
  refine ⟨?_, hst, ?_⟩ <;> unfold State.book <;> split
  · exact hl
  · exact (hl.modAdrift (List.mem_cons_self ..) (f := fun p => { p with massCounted := true }) rfl).of_places rfl
  next hc =>
    have hc : (s.plate i).massCounted = true := hc
    rw [← hc]; rfl
  · exact State.plate_modPlate_self ..

theorem Placed.washDone (h : Placed [] s) (hi : s.inTransit i = true) :
    Placed [] (((s.leaveTransit i).book i).endWash i).evaluateGate := by
  have hspot := h.spots i (by simp)
  obtain ⟨hl, hst, hplate⟩ := h.leaveWash hi
  have hlane : (((s.leaveTransit i).book i).plate i).lane = none := by
    rw [hplate]; exact hspot.lane_none (by simp [hst])
  have hdrawer : (((s.leaveTransit i).book i).plate i).drawer = none := by
    rw [hplate]; exact hspot.drawer_none (by simp [hst]) (by simp [hst]) (by simp [hst]) (by simp [hst])
  obtain ⟨hf, hr⟩ := hspot.not_held (by simp [hst])
  refine Placed.of_places ?_ (places_evaluateGate _)
  unfold State.endWash
  split
  · exact hl.holdAtStep (by simp) hlane (.inl hdrawer) _
  next hp =>
    rw [hplate] at hp
    have hm := hl.modAdrift (List.mem_cons_self ..) (f := fun p => p.inState .washed) rfl
    refine hm.joinTail (by simp) (by simp) ?_ ?_ ?_ <;> rw [State.plate_modPlate_self]
    · rw [hplate]
      exact Plate.Unheld.sound ⟨hf, hr, eq_false_of_ne_true hp⟩ (by simp [Plate.inState]) (by simp [Plate.inState])
        (.inl (hplate ▸ hdrawer))
    · rfl
    · exact hlane

theorem Placed.washFault (h : Placed [] s) (hi : s.inTransit i = true) :
    Placed [] (((s.leaveTransit i).book i).holdAtStep i .washFault .exposed .W).evaluateGate := by
  have hspot := h.spots i (by simp)
  obtain ⟨hl, hst, hplate⟩ := h.leaveWash hi
  refine Placed.of_places (hl.holdAtStep (by simp) ?_ (.inl ?_) _) (places_evaluateGate _) <;> rw [hplate]
  · exact hspot.lane_none (by simp [hst])
  · exact hspot.drawer_none (by simp [hst]) (by simp [hst]) (by simp [hst]) (by simp [hst])

theorem Placed.overdueExpiry (h : Placed [] s) (hi : s.transit.any (fun e => e.runsOut i) = true) :
    Placed [] (s.overdueExpiry i) := by
  obtain ⟨e, he, hrun⟩ := List.any_eq_true.mp hi
  have hei : e.slot = i := by simp [TransitEntry.runsOut] at hrun; exact hrun.1.1
  have hst : (s.plate i).state = .washing :=
    (h.spots i (by simp)).washing.mp (List.mem_map.mpr ⟨e, he, hei⟩)
  rw [State.overdueExpiry, if_pos hi]
  have ht : Placed [] { s with
      transit := s.transit.map fun e => if e.runsOut i then { e with remaining := 0, expired := true } else e } := by
    refine h.setTransit ?_
    rw [List.map_map]
    refine List.map_congr_left fun e _ => ?_
    simp only [Function.comp_apply]
    split <;> rfl
  exact (ht.modInPlace (i := i) (f := fun p => p.mark .overdue) ⟨rfl, rfl, rfl, rfl, rfl, rfl, .inl, fun e => by
    change (s.plate i).state = .free at e
    simp [hst] at e⟩).post ..

/-! ### The drawers -/

theorem Placed.loadDrawer (h : Placed [] s) {d : DrawerIx} (he : (s.drawer d).state = .empty)
    (hi : (s.plate i).state = .washed ∨ i ∈ s.dryerQ) : Placed [] (s.loadDrawer d i).1 := by
  have hspot := h.spots i (by simp)
  have hst : (s.plate i).state = .washed :=
    hi.elim id fun hi => (PlateState.waitList_eq_iff _ _).mp ((hspot.listed .dryer).mp hi)
  obtain ⟨hf, hr⟩ := hspot.not_held (by simp [hst])
  have hl := h.liftListed (i := i) (l := .dryer) (by simp) (by rw [hst]; rfl)
  have hplate : (s.leaveList .dryer i).plate i = s.plate i := State.setWaitList_plate ..
  exact hl.landDrawer (by simp) ((h.tables.drawers d).mp he)
    (by rw [hplate]; exact (hspot.waiting_drawer (by rw [hst]; rfl)).resolve_right (by simp [hst]))
    (by rw [hplate]; exact hspot.lane_none (by simp [hst])) (by rw [hplate]; exact hf) (by rw [hplate]; exact hr) _

theorem emptyDrawer_plate_self (s : State) (d : DrawerIx) (i : Slot) :
    (s.emptyDrawer d i).plate i = { s.plate i with drawer := none } := by
  rw [State.emptyDrawer, State.modDrawer_plate, State.plate_modPlate_self]

/-- A wet plate comes out HELD with the time it still owes (R150). -/
theorem Placed.unloadWet (h : Placed [] s) {d : DrawerIx} (hd : (s.drawer d).slot = some i)
    (hw : (s.drawer d).state ≠ .dry) :
    Placed [] (((s.modPlate i fun p => { p with dryRemaining := (s.drawer d).remaining }).emptyDrawer d i).holdAtStep i
      .wetRemoved .washed .D) := by
  have hspot := h.spots i (by simp)
  have hst := hspot.drying.mpr ⟨d, hd, hw⟩
  have hm : Placed [] (s.modPlate i fun p => { p with dryRemaining := (s.drawer d).remaining }) :=
    h.modInPlace ⟨rfl, rfl, rfl, rfl, rfl, rfl, .inl, fun e => by simp [hst] at e⟩
  refine (hm.liftWet (by simp) hd hw).holdAtStep (by simp) ?_ (.inl ?_) _ <;>
    rw [emptyDrawer_plate_self, State.plate_modPlate_self]
  exact hspot.lane_none (by simp [hst])

theorem Placed.unloadDrawer (h : Placed [] s) {d : DrawerIx} (hd : (s.drawer d).slot = some i) :
    Placed [] (s.unloadDrawer d i) := by
  unfold State.unloadDrawer
  split
  next hs => exact h.clearDry hd hs
  next hs => exact h.unloadWet hd (by simp [hs])
  next hs => exact h.unloadWet hd (by simp [hs])
  · exact h

theorem Placed.endDrying (h : Placed [i] s) (hlane : (s.plate i).lane = none) (hf : (s.plate i).heldFrom = none)
    (hr : (s.plate i).holdReason = none) : Placed [] (s.endDrying i) := by
  unfold State.endDrying
  split
  · exact h.holdAtStep (by simp) hlane (.inr rfl) _
  next hp =>
    have hm := h.modAdrift (List.mem_cons_self ..) (f := fun p => p.inState .dried) rfl
    refine hm.joinTail (by simp) (by simp) ?_ ?_ ?_ <;> rw [State.plate_modPlate_self]
    · exact Plate.Unheld.sound ⟨hf, hr, eq_false_of_ne_true hp⟩ (by simp [Plate.inState]) (by simp [Plate.inState])
        (.inr (.inl rfl))
    · rfl
    · exact hlane

theorem Placed.dryExpiry (h : Placed [] s) (d : DrawerIx) : Placed [] (s.dryExpiry d) := by
  unfold State.dryExpiry
  split
  next i hs hd =>
    split
    · have hspot := h.spots i (by simp)
      have hst := hspot.drying.mpr ⟨d, hd, by simp [hs]⟩
      obtain ⟨hf, hr⟩ := hspot.not_held (by simp [hst])
      refine Placed.endDrying (((h.liftDried (by simp) hd hs).modAdrift (List.mem_cons_self ..)
        (f := fun p => { p with dryRemaining := 0 }) rfl).post ..) ?_ ?_ ?_ <;>
        rw [State.post_plate, State.plate_modPlate_self]
      · exact hspot.lane_none (by simp [hst])
      · exact hf
      · exact hr
    · exact h
  · exact h

/-! ### The finisher position -/

/-- The DRY drawer that references an adrift plate, if there is one, lets go of it (R151). -/
theorem Placed.clearReference (h : Placed (i :: A) s) :
    Placed (i :: A) (s.clearReference i) ∧ (s.clearReference i).plate i = { s.plate i with drawer := none } := by
  have ha := h.adrift i (List.mem_cons_self ..)
  unfold State.clearReference
  split
  next d hd =>
    have hd : (s.drawer d).state = .dry ∧ (s.drawer d).slot = some i := by
      simpa using List.find?_some hd
    exact ⟨h.clearDry hd.2 hd.1, emptyDrawer_plate_self ..⟩
  next hn =>
    refine ⟨h, ?_⟩
    have hnone : (s.plate i).drawer = none := by
      refine Option.eq_none_iff_forall_ne_some.mpr fun d hd => ?_
      have hslot := (ha.referenced d).mp hd
      have := List.find?_eq_none.mp hn d (List.mem_finRange d)
      simp [hslot, ha.dry d hslot] at this
    rw [← hnone]

theorem Placed.loadFinisher (h : Placed [] s) (he : s.finisher.state = .empty)
    (hi : (s.plate i).state = .dried ∨ i ∈ s.finisherQ) : Placed [] (s.loadFinisher i).1 := by
  have hspot := h.spots i (by simp)
  have hst : (s.plate i).state = .dried :=
    hi.elim id fun hi => (PlateState.waitList_eq_iff _ _).mp ((hspot.listed .finisher).mp hi)
  obtain ⟨hf, hr⟩ := hspot.not_held (by simp [hst])
  have hl := h.liftListed (i := i) (l := .finisher) (by simp) (by rw [hst]; rfl)
  obtain ⟨hc, hplate⟩ := hl.clearReference
  have hplate : ((s.leaveList .finisher i).clearReference i).plate i = { s.plate i with drawer := none } := by
    rw [hplate, State.leaveList, State.setWaitList_plate]
  have hm := hc.modAdrift (List.mem_cons_self ..) (f := fun p => p.inState .finishing) rfl
  refine hm.landFinisher (by simp) ?_ ?_ ?_ ?_ rfl (by simp)
  · rw [State.plate_modPlate_self, hplate]
    exact Plate.Unheld.sound ⟨hf, hr, hspot.not_pending (by rw [hst]; rfl)⟩ (by simp [Plate.inState])
      (by simp [Plate.inState]) (.inl rfl)
  · rw [State.plate_modPlate_self]; rfl
  · rw [State.plate_modPlate_self, hplate]
    exact hspot.lane_none (by simp [hst])
  · have hfin : ((s.leaveList .finisher i).clearReference i).finisher = s.finisher := by
      unfold State.clearReference
      split
      · rfl
      · rfl
    rw [State.modPlate_finisher, hfin]
    exact h.tables.position.mp he

/-- What the finisher's plate brings with it out of the position. -/
theorem Placed.finishing (h : Placed [] s) (hi : s.finisher.slot = some i) :
    (s.plate i).lane = none ∧ (s.plate i).drawer = none ∧ (s.plate i).heldFrom = none ∧ (s.plate i).holdReason = none := by
  have hspot := h.spots i (by simp)
  have hst := hspot.finishing.mpr hi
  exact ⟨hspot.lane_none (by simp [hst]),
    hspot.drawer_none (by simp [hst]) (by simp [hst]) (by simp [hst]) (by simp [hst]), hspot.not_held (by simp [hst])⟩

theorem Placed.clearFinisher (h : Placed [] s) (hn : s.finisher.slot = none) : Placed [] s.clearFinisher := by
  have : Placed [] { s with finisher := {} } :=
    h.aside (h.tables.setFinisher (by simp)) fun j => .setFinisher (by simp [hn])
  exact this.of_places rfl

theorem Placed.unloadFinisher (h : Placed [] s) (hi : s.finisher.slot = some i) :
    Placed [] (s.settleFinished i).clearFinisher := by
  obtain ⟨hlane, hdrawer, hf, hr⟩ := h.finishing hi
  have hl := h.liftFinisher (by simp) hi
  have held (reason : HoldReason) (from_ : HeldFrom) (p : Port) :
      Placed [] (s.holdAtStep i reason from_ p).clearFinisher :=
    (hl.holdAtStep (by simp) hlane (.inl hdrawer) (reason := reason) (from_ := from_) p).of_places rfl
  unfold State.settleFinished
  split
  · exact held ..
  split
  · exact held ..
  split
  · exact held ..
  next hp =>
    have hm := hl.modAdrift (List.mem_cons_self ..) (f := fun p => p.inState .done) rfl
    refine (hm.landPlain (by simp) ?_ ?_ ?_).of_places rfl <;> rw [State.plate_modPlate_self]
    · exact Plate.Unheld.sound ⟨hf, hr, eq_false_of_ne_true hp⟩ (by simp [Plate.inState]) (by simp [Plate.inState])
        (.inl hdrawer)
    · simp [Plate.inState]
    · exact hlane

theorem Placed.undoFinish (h : Placed [] s) (hi : s.finisher.slot = some i) :
    Placed [] { s.undoFinish i with finisher := {} } := by
  obtain ⟨hlane, hdrawer, hf, hr⟩ := h.finishing hi
  have hl := h.liftFinisher (by simp) hi
  unfold State.undoFinish
  split
  · exact (hl.holdAtStep (by simp) hlane (.inl hdrawer) (reason := .operator) (from_ := .dried) .D).of_places rfl
  next hp =>
    have hm := hl.modAdrift (List.mem_cons_self ..) (f := fun p => p.inState .dried) rfl
    have hn := (hm.adrift i (List.mem_cons_self ..)).unlisted .finisher
    refine (hm.landListed (l := .finisher) (q := i :: s.finisherQ) (by simp) ?_ ?_ ?_
      (List.nodup_cons.mpr ⟨hn, h.tables.nodup .finisher⟩) (fun j => List.mem_cons) (fun e => by cases e)).of_places ?_
    · rw [State.plate_modPlate_self]
      exact Plate.Unheld.sound ⟨hf, hr, eq_false_of_ne_true hp⟩ (by simp [Plate.inState]) (by simp [Plate.inState])
        (.inl hdrawer)
    · rw [State.plate_modPlate_self]; rfl
    · rw [State.plate_modPlate_self]; exact hlane
    · simp only [State.fillList]
      cases ((s.modPlate i fun p => p.inState .dried).waitList .finisher).isEmpty <;> rfl

theorem Placed.breakOffFinish (hs : Located s) (hp : PhasesOk s) (hi : s.finisher.slot = some i) :
    Placed [] (s.breakOffFinish i).clearFinisher := by
  have hlit (c : Chan) (hc : s.chanActive c = true) (i : Slot) (hi : (s.chan c).slot = some i) : s.inLight i :=
    .inr (.inr (.inr ⟨c, hc, hi⟩))
  have h1 : LightMove s.inLight s (s.abortRun .detack) := .abortRun (hlit _)
  have hm := h1.trans (.abortRun (c := .post) (h1.active_mem (hlit _)))
  have hfree (i : Slot) (hi : s.inLight i) : (s.plate i).state ≠ .free := fun e => by
    rcases inLight_not_free hs hp hi with h | h <;> rw [e] at h <;> cases h
  have h := hm.placed hfree ((located_iff s).mp hs)
  have hi := hm.position.trans hi
  obtain ⟨hlane, hdrawer, -, -⟩ := h.finishing hi
  exact ((h.liftFinisher (by simp) hi).holdAtStep (by simp) hlane (.inl hdrawer) (reason := .aborted) (from_ := .dried)
    .D).of_places rfl

/-! ### Every deed -/

theorem PlateDeed.placed (hd : PlateDeed s t) (hs : Located s) (hp : PhasesOk s) : Placed [] t := by
  have h := (located_iff s).mp hs
  cases hd with
  | stage ix lot n _ _ _ _ _ =>
    exact h.stage ((freeSlots_nodup s).sublist (List.take_sublist ..))
      (fun i hi => (mem_freeSlots s i).mp (List.mem_of_mem_take hi)) (stagedPlate_sound _ _ _) (fun _ => rfl)
      (fun _ => rfl) fun _ => rfl
  | hold i from_ hf => exact h.hold hf
  | pend i ha => exact h.pend ha
  | release i dest hh hf => exact h.release hh hf
  | unpend i => exact h.unpend
  | scrap i hw => exact h.scrap hw
  | purge i hd hr => exact h.purge hd hr
  | loadWide i he hi => exact h.loadWide he hi
  | loadPair i j behind he hq hj => exact h.loadPair he hq hj
  | loadOne i he hi => exact h.loadOne he hi
  | unload he => exact h.unload he
  | undoLoad he => exact h.undoLoad he
  | breakOffLoad => exact .breakOffLoad hs hp
  | claim i _ _ hi => exact h.claim hi
  | washDone i hi => exact h.washDone hi
  | washFault i hi => exact h.washFault hi
  | overdue i hi => exact h.overdueExpiry hi
  | loadDrawer d i he hi => exact h.loadDrawer he hi
  | unloadDrawer d i hd => exact h.unloadDrawer hd
  | dryExpiry d => exact h.dryExpiry d
  | loadFinisher i he hi => exact h.loadFinisher he hi
  | clearFinisher hn => exact h.clearFinisher hn
  | unloadFinisher i hi => exact h.unloadFinisher hi
  | undoFinish i hi => exact h.undoFinish hi
  | breakOffFinish i hi => exact .breakOffFinish hs hp hi

/-- Every deed keeps each plate in the location of its state. -/
theorem Deed.located (hd : Deed s t) (hs : Located s) (hp : PhasesOk s) : Located t := by
  refine (located_iff t).mpr ?_
  cases hd with
  | store h => exact h.placed ((located_iff s).mp hs)
  | plate h => exact h.placed hs hp
  | light h => exact h.placed hs hp

end

end Sys2Proof.Machine
end

-- ==== Sys2Proof/Proofs/J ====
section
/-! Drying times. A plate owes drying time until its drawer's timer has run out (chapter 8), so every move keeps what it owes,
or settles it; and with `Deed.located` this settles O59. -/

namespace Sys2Proof.Machine

/-! ### A plate moves onward -/

/-- What a move of a plate may do: it changes the state of a plate in use alone, and the drying time stays and is owed only
if it was, or is settled, or is a time W of a wet drawer. -/
structure Plate.Onward (W : Nat → Prop) (p q : Plate) : Prop where
  state : q.state = p.state ∨ p.state.usesType = true
  dry : (q.dryRemaining = p.dryRemaining ∧ (q.owesDrying = true → p.owesDrying = true))
    ∨ (q.dryRemaining = 0 ∧ q.owesDrying = false) ∨ W q.dryRemaining

section
variable {W : Nat → Prop} {p q r : Plate}

theorem Plate.Onward.refl (p : Plate) : Plate.Onward W p p := ⟨.inl rfl, .inl ⟨rfl, id⟩⟩

theorem Plate.Onward.trans (h : Plate.Onward W p q) (k : Plate.Onward W q r) : Plate.Onward W p r := by
  constructor
  · rcases h.state with hs | hs
    · rcases k.state with ks | ks
      · exact .inl (ks.trans hs)
      · exact .inr (hs ▸ ks)
    · exact .inr hs
  · rcases k.dry with ⟨hd, ho⟩ | hz | hw
    · rcases h.dry with ⟨hd', ho'⟩ | ⟨hd', ho'⟩ | hw
      · exact .inl ⟨hd.trans hd', fun h => ho' (ho h)⟩
      · refine .inr (.inl ⟨hd.trans hd', ?_⟩)
        cases hr : r.owesDrying with
        | false => rfl
        | true => rw [ho hr] at ho'; cases ho'
      · exact .inr (.inr (hd ▸ hw))
    · exact .inr (.inl hz)
    · exact .inr (.inr hw)

theorem Plate.owesDrying_of_state (h : p.state = .staged ∨ p.state = .onFrame ∨ p.state = .exposed ∨ p.state = .washing
    ∨ p.state = .washed ∨ p.state = .drying) : p.owesDrying = true ∧ p.state.usesType = true := by
  unfold Plate.owesDrying
  rcases h with h | h | h | h | h | h <;> rw [h] <;> exact ⟨rfl, rfl⟩

theorem Plate.not_owesDrying_of_state (h : p.state = .free ∨ p.state = .dried ∨ p.state = .finishing ∨ p.state = .done
    ∨ p.state = .scrapped) : p.owesDrying = false := by
  unfold Plate.owesDrying
  rcases h with h | h | h | h | h <;> rw [h]

theorem Plate.not_owesDrying_of_held (h : p.state = .held) (hf : p.heldFrom = some .dried ∨ p.heldFrom = some .done) :
    p.owesDrying = false := by
  unfold Plate.owesDrying
  rcases hf with hf | hf <;> rw [h, hf]

/-- A plate that owes drying time may go anywhere with it. -/
theorem Plate.Onward.of_owing (h : p.state = .staged ∨ p.state = .onFrame ∨ p.state = .exposed ∨ p.state = .washing
    ∨ p.state = .washed ∨ p.state = .drying) (hd : q.dryRemaining = p.dryRemaining) : Plate.Onward W p q :=
  have ⟨ho, hu⟩ := Plate.owesDrying_of_state h
  ⟨.inr hu, .inl ⟨hd, fun _ => ho⟩⟩

/-- A plate in use may go where none is owed. -/
theorem Plate.Onward.of_settled (h : p.state.usesType = true) (hd : q.dryRemaining = p.dryRemaining)
    (hq : q.owesDrying = false) : Plate.Onward W p q :=
  ⟨.inr h, .inl ⟨hd, fun h => by rw [hq] at h; cases h⟩⟩

/-- A plate stays in its state. -/
theorem Plate.Onward.of_same (hs : q.state = p.state) (hf : q.heldFrom = p.heldFrom)
    (hd : q.dryRemaining = p.dryRemaining) : Plate.Onward W p q :=
  ⟨.inl hs, .inl ⟨hd, by unfold Plate.owesDrying; rw [hs, hf]; exact id⟩⟩

end

/-- A drawer that is not wet has no time on its timer. -/
def Drawer.quiet (k : Drawer) : Prop := k.state ≠ .drying ∧ k.state ≠ .opened ∧ k.remaining = 0

/-- What a move of a plate may do to a drawer: nothing, or the drawer is wet no more, or it takes in a plate with a time
of T. -/
def Drawer.Onward (T : Nat → Prop) (k l : Drawer) : Prop :=
  l = k ∨ l.quiet ∨ (l.state = .drying ∧ T l.remaining)

theorem Drawer.Onward.trans {T : Nat → Prop} {k l m : Drawer} (h : Drawer.Onward T k l) (h' : Drawer.Onward T l m) :
    Drawer.Onward T k m := by
  rcases h' with rfl | h'
  · exact h
  · exact .inr h'

/-- Every plate and every drawer has moved onward. -/
structure Onward (W T : Nat → Prop) (s t : State) : Prop where
  plates : ∀ i, Plate.Onward W (s.plate i) (t.plate i)
  drawers : ∀ d, Drawer.Onward T (s.drawer d) (t.drawer d)

theorem Onward.refl {W T : Nat → Prop} (s : State) : Onward W T s s := ⟨fun _ => .refl _, fun _ => .inl rfl⟩

theorem Onward.trans {W T : Nat → Prop} {s t u : State} (h : Onward W T s t) (k : Onward W T t u) : Onward W T s u :=
  ⟨fun i => (h.plates i).trans (k.plates i), fun d => (h.drawers d).trans (k.drawers d)⟩

/-! ### What the operations touch -/

/-- The plates of P alone are touched, the drawers of Q alone, and no plate's drying time. -/
structure Touch (P : Slot → Prop) (Q : DrawerIx → Prop) (s t : State) : Prop where
  only : ∀ j, ¬ P j → t.plate j = s.plate j
  dry : ∀ j, (t.plate j).dryRemaining = (s.plate j).dryRemaining
  drawers : ∀ d, ¬ Q d → t.drawer d = s.drawer d

namespace Touch
variable {P : Slot → Prop} {Q : DrawerIx → Prop} {s t u : State} {i : Slot}

theorem refl (s : State) : Touch P Q s s := ⟨fun _ _ => rfl, fun _ => rfl, fun _ _ => rfl⟩

theorem trans (h : Touch P Q s t) (k : Touch P Q t u) : Touch P Q s u :=
  ⟨fun j hj => (k.only j hj).trans (h.only j hj), fun j => (k.dry j).trans (h.dry j),
    fun d hd => (k.drawers d hd).trans (h.drawers d hd)⟩

theorem of_eq (hp : t.plates = s.plates) (hd : t.drawers = s.drawers) : Touch P Q s t := by
  refine ⟨fun j _ => ?_, fun j => ?_, fun d _ => ?_⟩
  · simp only [State.plate, hp]
  · simp only [State.plate, hp]
  · simp only [State.drawer, hd]

theorem modPlate (hi : P i) {f : Plate → Plate} (hf : (f (s.plate i)).dryRemaining = (s.plate i).dryRemaining) :
    Touch P Q s (s.modPlate i f) := by
  refine ⟨fun j hj => State.plate_modPlate_ne _ _ fun e => hj (e ▸ hi), fun j => ?_, fun _ _ => rfl⟩
  by_cases h : j = i
  · subst h; rw [State.plate_modPlate_self]; exact hf
  · rw [State.plate_modPlate_ne _ _ h]

/-- One plate alone is touched. -/
theorem modOne (s : State) (i : Slot) {f : Plate → Plate} (hf : (f (s.plate i)).dryRemaining = (s.plate i).dryRemaining) :
    Touch (· = i) Q s (s.modPlate i f) := modPlate (P := (· = i)) rfl hf

theorem setTransit (s : State) (l : List TransitEntry) : Touch P Q s { s with transit := l } := of_eq rfl rfl

theorem setSolvent (s : State) (v : Solvent) : Touch P Q s { s with solvent := v } := of_eq rfl rfl

theorem setFrame (s : State) (u : FrameUnit) : Touch P Q s { s with frame := u } := of_eq rfl rfl

theorem setFinisher (s : State) (v : Finisher) : Touch P Q s { s with finisher := v } := of_eq rfl rfl

theorem clearBed (s : State) : Touch P Q s s.clearBed := of_eq rfl rfl

theorem clearFinisher (s : State) : Touch P Q s s.clearFinisher := of_eq rfl rfl

theorem modDrawer {d : DrawerIx} (hd : Q d) (f : Drawer → Drawer) : Touch P Q s (s.modDrawer d f) :=
  ⟨fun _ _ => rfl, fun _ => rfl, fun _ he => State.drawer_modDrawer_ne _ _ fun h => he (h ▸ hd)⟩

theorem post (s : State) (p : Port) (e : Event) : Touch P Q s (s.post p e) := of_eq rfl rfl

theorem setWaitList (s : State) (l : WaitList) (q : List Slot) : Touch P Q s (s.setWaitList l q) := by
  cases l <;> exact of_eq rfl rfl

theorem announce (s : State) (l : WaitList) (b : Bool) : Touch P Q s (s.announce l b) := by
  cases b <;> exact of_eq rfl rfl

theorem fillList (s : State) (l : WaitList) (q : List Slot) : Touch P Q s (s.fillList l q) :=
  (setWaitList ..).trans (announce ..)

theorem leaveOwnList (s : State) (i : Slot) : Touch P Q s (s.leaveOwnList i) := by
  unfold State.leaveOwnList
  split
  · exact setWaitList ..
  · exact refl s

theorem holdAtStep (hi : P i) (s : State) (reason : HoldReason) (from_ : HeldFrom) (p : Port) :
    Touch P Q s (s.holdAtStep i reason from_ p) := ((modPlate hi rfl).trans (post ..)).trans (post ..)

theorem inState (hi : P i) (s : State) (st : PlateState) : Touch P Q s (s.modPlate i fun p => p.inState st) := modPlate hi rfl

theorem offLane (hi : P i) (s : State) : Touch P Q s (s.offLane i) := modPlate hi rfl

theorem joinReleased (s : State) (i : Slot) (dest : HeldFrom) : Touch P Q s (s.joinReleased i dest) := by
  cases dest
  case done => exact refl s
  all_goals exact fillList ..

theorem placeOnFrame (hi : P i) (s : State) (lane : LanePlace) : Touch P Q s (s.placeOnFrame i lane) :=
  (setWaitList ..).trans (modPlate hi rfl)

theorem settleUnloaded (hi : P i) (s : State) (lane : Lane) : Touch P Q s (s.settleUnloaded i lane) := by
  unfold State.settleUnloaded
  split
  · exact (offLane hi s).trans (holdAtStep hi ..)
  split
  · exact (offLane hi s).trans (holdAtStep hi ..)
  split
  · exact (offLane hi s).trans (holdAtStep hi ..)
  · exact ((offLane hi s).trans (inState hi ..)).trans (fillList ..)

theorem settleLane {lane : Lane} (hi : ∀ i, lane.slot = some i → P i) (s : State) : Touch P Q s (s.settleLane lane) := by
  unfold State.settleLane
  split
  next i h => exact settleUnloaded (hi i h) ..
  · exact refl s

theorem undoLane (hi : P i) (s : State) (ahead : Option Slot) : Touch P Q s (s.undoLane ahead i) := by
  unfold State.undoLane
  split
  · exact (offLane hi s).trans (holdAtStep hi ..)
  · exact ((offLane hi s).trans (inState hi ..)).trans (fillList ..)

theorem undoLoad (hP : ∀ i ∈ s.frame.plates, P i) : Touch P Q s s.undoLoad := by
  unfold State.undoLoad
  split
  · exact refl s
  next i h => exact undoLane (hP i (by simp [h])) ..
  next i j l h => exact (undoLane (hP i (by simp [h])) ..).trans (undoLane (hP j (by simp [h])) ..)

theorem foldl_holdAborted {l : List Slot} (hP : ∀ i ∈ l, P i) (s : State) : Touch P Q s (l.foldl State.holdAborted s) := by
  induction l generalizing s with
  | nil => exact refl s
  | cons i l ih =>
    have hi := hP i (List.mem_cons_self ..)
    exact ((offLane hi s).trans (holdAtStep hi ..)).trans (ih (fun j hj => hP j (List.mem_cons_of_mem _ hj)) _)

theorem claim (hi : P i) (s : State) : Touch P Q s (s.claim i).1 :=
  ((setWaitList ..).trans (modPlate hi rfl)).trans (setTransit ..)

theorem book (hi : P i) (s : State) : Touch P Q s (s.book i) := by
  unfold State.book
  split
  · exact refl s
  · exact (setSolvent ..).trans (modPlate hi rfl)

theorem endWash (hi : P i) (s : State) : Touch P Q s (s.endWash i) := by
  unfold State.endWash
  split
  · exact holdAtStep hi ..
  · exact (inState hi ..).trans (fillList ..)

theorem endDrying (hi : P i) (s : State) : Touch P Q s (s.endDrying i) := by
  unfold State.endDrying
  split
  · exact holdAtStep hi ..
  · exact (inState hi ..).trans (fillList ..)

theorem evaluateGate (s : State) : Touch P Q s s.evaluateGate :=
  of_eq (congrArg State.plates (places_evaluateGate s) :) (congrArg State.drawers (places_evaluateGate s) :)

theorem overdueExpiry (hi : P i) (s : State) : Touch P Q s (s.overdueExpiry i) := by
  unfold State.overdueExpiry
  split
  · exact ((setTransit ..).trans (modPlate hi rfl)).trans (post ..)
  · exact refl s

theorem emptyDrawer (hi : P i) {d : DrawerIx} (hd : Q d) (s : State) : Touch P Q s (s.emptyDrawer d i) :=
  (modPlate hi rfl).trans (modDrawer hd _)

theorem settleFinished (hi : P i) (s : State) : Touch P Q s (s.settleFinished i) := by
  unfold State.settleFinished
  split
  · exact holdAtStep hi ..
  split
  · exact holdAtStep hi ..
  split
  · exact holdAtStep hi ..
  · exact (inState hi ..).trans (post ..)

theorem undoFinish (hi : P i) (s : State) : Touch P Q s (s.undoFinish i) := by
  unfold State.undoFinish
  split
  · exact holdAtStep hi ..
  · exact (inState hi ..).trans (fillList ..)

theorem drawersOnward {T : Nat → Prop} (h : Touch P Q s t)
    (hQ : ∀ d, Q d → Drawer.Onward T (s.drawer d) (t.drawer d)) (d : DrawerIx) :
    Drawer.Onward T (s.drawer d) (t.drawer d) := by
  by_cases hd : Q d
  · exact hQ d hd
  · exact .inl (h.drawers d hd)

theorem of_light (h : LightMove P s t) : Touch P Q s t :=
  ⟨h.only, fun i => (h.plates i).dryRemaining, fun d _ => by simp only [State.drawer, h.drawers]⟩

variable {W T : Nat → Prop}

/-- A touched plate that owes drying time may have gone anywhere. -/
theorem onward (h : Touch P Q s t) (hP : ∀ i, P i → (s.plate i).state = .staged
    ∨ (s.plate i).state = .onFrame ∨ (s.plate i).state = .exposed ∨ (s.plate i).state = .washing
    ∨ (s.plate i).state = .washed ∨ (s.plate i).state = .drying)
    (hQ : ∀ d, Q d → Drawer.Onward T (s.drawer d) (t.drawer d) := by exact fun _ h => h.elim) : Onward W T s t := by
  refine ⟨fun j => ?_, h.drawersOnward hQ⟩
  by_cases hj : P j
  · exact .of_owing (hP j hj) (h.dry j)
  · rw [h.only j hj]; exact .refl _

/-- One plate in use is touched, and owes nothing afterwards. -/
theorem onward_settled (h : Touch (· = i) Q s t) (hs : (s.plate i).state.usesType = true)
    (ht : (t.plate i).owesDrying = false)
    (hQ : ∀ d, Q d → Drawer.Onward T (s.drawer d) (t.drawer d) := by exact fun _ h => h.elim) : Onward W T s t := by
  refine ⟨fun j => ?_, h.drawersOnward hQ⟩
  by_cases hj : j = i
  · subst hj; exact .of_settled hs (h.dry j) ht
  · rw [h.only j hj]; exact .refl _

/-- One plate is touched, and stays in its state. -/
theorem onward_same (h : Touch (· = i) Q s t) (hs : (t.plate i).state = (s.plate i).state)
    (hf : (t.plate i).heldFrom = (s.plate i).heldFrom)
    (hQ : ∀ d, Q d → Drawer.Onward T (s.drawer d) (t.drawer d) := by exact fun _ h => h.elim) : Onward W T s t := by
  refine ⟨fun j => ?_, h.drawersOnward hQ⟩
  by_cases hj : j = i
  · subst hj; exact .of_same hs hf (h.dry j)
  · rw [h.only j hj]; exact .refl _

end Touch

theorem LightMove.onward {P : Slot → Prop} {W T : Nat → Prop} {s t : State} (h : LightMove P s t) : Onward W T s t :=
  ⟨fun i => .of_same (h.plates i).state (h.plates i).heldFrom (h.plates i).dryRemaining,
    fun d => .inl (by simp only [State.drawer, h.drawers])⟩

/-! ### Every deed moves plates onward -/

/-- A time on a drawer's timer that is not the time of a dried plate. -/
def State.wetTime (s : State) (n : Nat) : Prop :=
  ∃ d, ((s.drawer d).state = .drying ∨ (s.drawer d).state = .opened) ∧ n = (s.drawer d).remaining

/-- The drying time of a plate that waits for the dryer. -/
def State.owedTime (s : State) (n : Nat) : Prop := ∃ i, (s.plate i).state = .washed ∧ n = (s.plate i).dryRemaining

section
variable {W T : Nat → Prop} {s t : State} {i : Slot}

theorem holdAtStep_plate_self (s : State) (i : Slot) (reason : HoldReason) (from_ : HeldFrom) (p : Port) :
    (s.holdAtStep i reason from_ p).plate i = (s.plate i).heldFor reason from_ := by
  rw [State.holdAtStep, State.post_plate, State.post_plate, State.plate_modPlate_self]

theorem endDrying_settled (s : State) (i : Slot) : ((s.endDrying i).plate i).owesDrying = false := by
  unfold State.endDrying
  split
  · rw [holdAtStep_plate_self]; exact Plate.not_owesDrying_of_held rfl (.inl rfl)
  · rw [State.joinTail, fillList_plate, State.plate_modPlate_self]
    exact Plate.not_owesDrying_of_state (.inr (.inl rfl))

theorem settleFinished_settled (s : State) (i : Slot) : ((s.settleFinished i).plate i).owesDrying = false := by
  unfold State.settleFinished
  split
  · rw [holdAtStep_plate_self]; exact Plate.not_owesDrying_of_held rfl (.inl rfl)
  split
  · rw [holdAtStep_plate_self]; exact Plate.not_owesDrying_of_held rfl (.inr rfl)
  split
  · rw [holdAtStep_plate_self]; exact Plate.not_owesDrying_of_held rfl (.inr rfl)
  · rw [State.post_plate, State.plate_modPlate_self]
    exact Plate.not_owesDrying_of_state (.inr (.inr (.inr (.inl rfl))))

theorem undoFinish_settled (s : State) (i : Slot) : ((s.undoFinish i).plate i).owesDrying = false := by
  unfold State.undoFinish
  split
  · rw [holdAtStep_plate_self]; exact Plate.not_owesDrying_of_held rfl (.inl rfl)
  · rw [fillList_plate, State.plate_modPlate_self]
    exact Plate.not_owesDrying_of_state (.inr (.inl rfl))

theorem hold_onward {from_ : HeldFrom} (hf : (s.plate i).state.asHeldFrom = some from_) :
    Onward W T s ((s.leaveOwnList i).modPlate i fun p => p.heldFor .operator from_) := by
  have ht : Touch (· = i) (fun _ => False) s ((s.leaveOwnList i).modPlate i fun p => p.heldFor .operator from_) :=
    (Touch.leaveOwnList s i).trans (Touch.modOne _ i rfl)
  cases hs : (s.plate i).state <;> rw [hs] at hf <;> cases hf
  case dried =>
    refine ht.onward_settled (by rw [hs]; rfl) ?_
    rw [State.plate_modPlate_self]
    exact Plate.not_owesDrying_of_held rfl (.inl rfl)
  all_goals exact ht.onward (by rintro _ rfl; simp [hs])

theorem joinReleased_plate (s : State) (i : Slot) (dest : HeldFrom) (j : Slot) :
    (s.joinReleased i dest).plate j = s.plate j := by
  cases dest <;> simp [State.joinReleased, State.joinTail]

theorem release_onward {dest : HeldFrom} (hs : (s.plate i).state = .held) (hf : (s.plate i).heldFrom = some dest) :
    Onward W T s ((s.modPlate i fun p => p.released dest.state).joinReleased i dest) := by
  have ht : Touch (· = i) (fun _ => False) s ((s.modPlate i fun p => p.released dest.state).joinReleased i dest) :=
    (Touch.modOne s i rfl).trans (Touch.joinReleased ..)
  refine ⟨fun j => ?_, ht.drawersOnward fun _ h => h.elim⟩
  by_cases hj : j = i
  · subst hj
    refine ⟨.inr (by rw [hs]; rfl), .inl ⟨ht.dry j, ?_⟩⟩
    rw [joinReleased_plate, State.plate_modPlate_self]
    unfold Plate.owesDrying Plate.released
    rw [hs, hf]
    cases dest <;> simp [HeldFrom.state]
  · rw [ht.only j hj]; exact .refl _

theorem scrap_onward (hs : (s.plate i).state.isWaiting = true ∨ (s.plate i).state = .held) :
    Onward W T s ((s.leaveOwnList i).modPlate i fun p => p.released .scrapped) := by
  have ht : Touch (· = i) (fun _ => False) s ((s.leaveOwnList i).modPlate i fun p => p.released .scrapped) :=
    (Touch.leaveOwnList s i).trans (Touch.modOne _ i rfl)
  refine ht.onward_settled ?_ ?_
  · rcases hs with hs | hs <;> simp [PlateState.usesType, hs]
  · rw [State.plate_modPlate_self]; exact Plate.not_owesDrying_of_state (by simp [Plate.released])

theorem emptyDrawer_quiet (s : State) (d : DrawerIx) (i : Slot) : ((s.emptyDrawer d i).drawer d).quiet := by
  rw [State.emptyDrawer, State.drawer_modDrawer_self]
  exact ⟨by simp, by simp, rfl⟩

/-- A plate comes out of a DRY drawer as it was but for its drawer. -/
theorem emptyDrawer_onward (s : State) (d : DrawerIx) (i : Slot) : Onward W T s (s.emptyDrawer d i) :=
  (Touch.emptyDrawer (P := (· = i)) (Q := (· = d)) rfl rfl s).onward_same (by rw [emptyDrawer_plate_self])
    (by rw [emptyDrawer_plate_self]) fun e he => .inr (.inl (he ▸ emptyDrawer_quiet ..))

theorem unloadWet_onward {d : DrawerIx} (hd : (s.drawer d).state = .drying ∨ (s.drawer d).state = .opened)
    (hi : (s.plate i).state = .drying) :
    Onward s.wetTime T s (((s.modPlate i fun p => { p with dryRemaining := (s.drawer d).remaining }).emptyDrawer d
      i).holdAtStep i .wetRemoved .washed .D) := by
  refine ⟨fun j => ?_, fun e => ?_⟩
  · by_cases hj : j = i
    · subst hj
      rw [holdAtStep_plate_self, emptyDrawer_plate_self, State.plate_modPlate_self]
      exact ⟨.inr (by rw [hi]; rfl), .inr (.inr ⟨d, hd, rfl⟩)⟩
    · rw [holdAtStep_plate_ne hj, State.emptyDrawer, State.modDrawer_plate, State.plate_modPlate_ne _ _ hj,
        State.plate_modPlate_ne _ _ hj]
      exact .refl _
  · by_cases he : e = d
    · subst he; exact .inr (.inl (emptyDrawer_quiet ..))
    · exact .inl (State.drawer_modDrawer_ne s (fun _ => {}) he)

theorem unloadDrawer_onward {d : DrawerIx} (h : Located s) (hi : (s.drawer d).slot = some i) :
    Onward s.wetTime T s (s.unloadDrawer d i) := by
  unfold State.unloadDrawer
  split
  · exact emptyDrawer_onward ..
  next hs => exact unloadWet_onward (.inl hs) ((h.drying i).mpr ⟨d, hi, .inl hs⟩)
  next hs => exact unloadWet_onward (.inr hs) ((h.drying i).mpr ⟨d, hi, .inr hs⟩)
  · exact .refl _

theorem dryExpiry_onward (h : Located s) (d : DrawerIx) : Onward W T s (s.dryExpiry d) := by
  unfold State.dryExpiry
  split
  next i hs hi =>
    split
    · have ht := fun u : State => Touch.endDrying (P := (· = i)) (Q := fun _ => False) rfl u
      refine ⟨fun j => ?_, fun e => ?_⟩
      · by_cases hj : j = i
        · subst hj
          refine ⟨.inr (by rw [(h.drying j).mpr ⟨d, hi, .inl hs⟩]; rfl), .inr (.inl ⟨?_, endDrying_settled ..⟩)⟩
          rw [(ht _).dry, State.post_plate, State.plate_modPlate_self]
        · rw [(ht _).only j hj, State.post_plate, State.plate_modPlate_ne _ _ hj]
          exact .refl _
      · rw [(ht _).drawers e id]
        by_cases he : e = d
        · subst he
          refine .inr (.inl ?_)
          have := State.drawer_modDrawer_self s e fun k => { k with state := .dry, remaining := 0 }
          refine this.symm ▸ (⟨by simp, by simp, rfl⟩ : Drawer.quiet { s.drawer e with state := .dry, remaining := 0 })
        · exact .inl (State.drawer_modDrawer_ne s (fun k => { k with state := .dry, remaining := 0 }) he)
    · exact .refl _
  · exact .refl _

theorem clearReference_onward (s : State) (i : Slot) : Onward W T s (s.clearReference i) := by
  unfold State.clearReference
  split
  · exact emptyDrawer_onward ..
  · exact .refl s

theorem clearReference_state (s : State) (i : Slot) : ((s.clearReference i).plate i).state = (s.plate i).state := by
  unfold State.clearReference
  split
  · rw [emptyDrawer_plate_self]
  · rfl

theorem loadDrawer_touch (s : State) (d : DrawerIx) (i : Slot) : Touch (· = i) (· = d) s (s.loadDrawer d i).1 := by
  have h : Touch (· = i) (· = d) s
      ((s.leaveList .dryer i).modPlate i fun p => { p with state := .drying, drawer := some d }) :=
    (Touch.setWaitList ..).trans (.modOne _ i rfl)
  simp only [State.loadDrawer]
  exact h.trans (.modDrawer (Q := (· = d)) rfl _)

theorem loadFinisher_onward (hs : (s.plate i).state = .dried) : Onward W T s (s.loadFinisher i).1 := by
  have h1 : Onward W T s ((s.leaveList .finisher i).clearReference i) :=
    ((Touch.setWaitList (P := fun _ => False) (Q := fun _ => False) s .finisher _).onward (by simp)).trans
      (clearReference_onward ..)
  refine h1.trans (Touch.onward_settled (i := i) (Q := fun _ => False)
    ((Touch.modOne _ i rfl).trans (Touch.setFinisher ..)) ?_ ?_)
  · rw [clearReference_state, State.leaveList, State.setWaitList_plate, hs]; rfl
  · refine Plate.not_owesDrying_of_state (.inr (.inr (.inl ?_)))
    exact congrArg Plate.state
      (State.plate_modPlate_self ((s.leaveList .finisher i).clearReference i) i fun p => p.inState .finishing)

/-- Every deed on plates but PURGE and STAGE_LOT moves the plates onward. -/
theorem PlateDeed.onward (hd : PlateDeed s t) (h : Located s) :
    Onward s.wetTime s.owedTime s t
      ∨ (∃ i, ((s.plate i).state = .done ∨ (s.plate i).state = .scrapped) ∧ t = s.modPlate i fun _ => Plate.cleared)
      ∨ ∃ ix lot n, n ≤ 16 ∧ (s.typeRec ix).valid = true ∧ 1 ≤ lot.relief.toNat
        ∧ lot.relief.toNat < (s.typeRec ix).thickness ∧ s.lotFits lot = true
        ∧ t = s.stage (stagedPlate ix (s.typeRec ix) lot) (s.freeSlots.take n) := by
  have bed {i : Slot} (hi : i ∈ s.frame.plates) : (s.plate i).state = .onFrame :=
    (h.onFrame i).2.mpr ((laneOf_isSome s i).mpr hi)
  have queued {i : Slot} (hi : i ∈ s.exposureQ) : (s.plate i).state = .staged := (h.staged.2 i).mp hi
  have wash {i : Slot} (hi : s.inTransit i = true) : (s.plate i).state = .washing :=
    (h.washing.2 i).mp (by simpa [State.inTransit] using hi)
  have one {i : Slot} {t : State} (ht : Touch (· = i) (fun _ => False) s t) (hi : (s.plate i).state = .staged
      ∨ (s.plate i).state = .exposed ∨ (s.plate i).state = .washing) : Onward s.wetTime s.owedTime s t :=
    ht.onward (by rintro _ rfl; rcases hi with h | h | h <;> simp [h])
  cases hd with
  | stage ix lot n hn hv hr hr' hf => exact .inr (.inr ⟨ix, lot, n, hn, hv, hr, hr', hf, rfl⟩)
  | purge i hs _ => exact .inr (.inl ⟨i, hs, rfl⟩)
  | hold i from_ hf => exact .inl (hold_onward hf)
  | pend i _ => exact .inl ((Touch.modOne (Q := fun _ => False) s i rfl).onward_same (by simp) (by simp))
  | unpend i => exact .inl ((Touch.modOne (Q := fun _ => False) s i rfl).onward_same (by simp) (by simp))
  | release i dest hs hf => exact .inl (release_onward hs hf)
  | scrap i hs => exact .inl (scrap_onward hs)
  | loadWide i _ hi =>
    exact .inl (one ((Touch.placeOnFrame (P := (· = i)) rfl s .both).trans (.setFrame ..)) (.inl (queued hi)))
  | loadOne i _ hi =>
    exact .inl (one ((Touch.placeOnFrame (P := (· = i)) rfl s .a).trans (.setFrame ..)) (.inl (queued hi)))
  | loadPair i j behind _ hq hj =>
    refine .inl (Touch.onward (P := (· ∈ s.exposureQ)) (Q := fun _ => False) ?_ fun k hk => .inl (queued hk))
    exact ((Touch.placeOnFrame (by simp [hq]) ..).trans (Touch.placeOnFrame (by simp [hq, hj]) ..)).trans (.setFrame ..)
  | unload _ =>
    refine .inl (Touch.onward (P := (· ∈ s.frame.plates)) (Q := fun _ => False) ?_ fun k hk => .inr (.inl (bed hk)))
    refine ((Touch.settleLane (fun i hi => (s.frame.mem_plates i).mpr (.inl hi)) s).trans
      (Touch.settleLane (fun i hi => (s.frame.mem_plates i).mpr (.inr ?_)) _)).trans (.clearBed _)
    unfold FrameUnit.unloadLaneB at hi
    split at hi
    · cases hi
    · exact hi
  | undoLoad _ =>
    exact .inl (Touch.onward (P := (· ∈ s.frame.plates)) (Q := fun _ => False)
      ((Touch.undoLoad fun _ hi => hi).trans (.setFrame ..)) fun k hk => .inr (.inl (bed hk)))
  | breakOffLoad =>
    have hm := LightMove.abortLoad s
    refine .inl (hm.onward.trans (Touch.onward (P := (· ∈ s.frame.plates)) (Q := fun _ => False)
      ((Touch.foldl_holdAborted (fun _ hi => hi) _).trans (.clearBed _)) fun k hk => .inr (.inl ?_)))
    rw [(hm.plates k).state]; exact bed hk
  | claim i _ _ hi =>
    exact .inl (one (.claim (P := (· = i)) rfl s) (.inr (.inl (hi.elim id (h.exposed.2 i).mp))))
  | washDone i hi =>
    exact .inl (one ((((Touch.setTransit s _).trans (.book (P := (· = i)) rfl _)).trans
      (.endWash (P := (· = i)) rfl _)).trans (.evaluateGate _)) (.inr (.inr (wash hi))))
  | washFault i hi =>
    exact .inl (one ((((Touch.setTransit s _).trans (.book (P := (· = i)) rfl _)).trans
      (.holdAtStep (P := (· = i)) rfl ..)).trans (.evaluateGate _)) (.inr (.inr (wash hi))))
  | overdue i hi =>
    have hi : s.inTransit i = true := by
      obtain ⟨e, he, hr⟩ := List.any_eq_true.mp hi
      simp [TransitEntry.runsOut] at hr
      simpa [State.inTransit] using ⟨e, he, hr.1.1⟩
    exact .inl (one (.overdueExpiry (P := (· = i)) rfl s) (.inr (.inr (wash hi))))
  | loadDrawer d i _ hi =>
    have hst : (s.plate i).state = .washed := hi.elim id (h.washed.2 i).mp
    refine .inl ((loadDrawer_touch s d i).onward (by rintro _ rfl; simp [hst]) fun e he => .inr (.inr ?_))
    subst he
    rw [show (s.loadDrawer e i).1.drawer e = _ from State.drawer_modDrawer_self ..]
    exact ⟨rfl, i, hst, rfl⟩
  | unloadDrawer d i hi => exact .inl (unloadDrawer_onward h hi)
  | dryExpiry d => exact .inl (dryExpiry_onward h d)
  | loadFinisher i _ hi => exact .inl (loadFinisher_onward (hi.elim id (h.dried.2 i).mp))
  | clearFinisher _ => exact .inl ⟨fun _ => .refl _, fun _ => .inl rfl⟩
  | unloadFinisher i hi =>
    refine .inl (Touch.onward_settled (Q := fun _ => False)
      ((Touch.settleFinished (P := (· = i)) rfl s).trans (.clearFinisher _)) ?_ (settleFinished_settled s i))
    rw [(h.finishing i).mpr hi]; rfl
  | undoFinish i hi =>
    refine .inl (Touch.onward_settled (Q := fun _ => False)
      ((Touch.undoFinish (P := (· = i)) rfl s).trans (.setFinisher ..)) ?_ (undoFinish_settled s i))
    rw [(h.finishing i).mpr hi]; rfl
  | breakOffFinish i hi =>
    have h1 : LightMove (fun _ => True) s (s.abortRun .detack) := .abortRun fun _ _ _ => trivial
    have hm := h1.trans (.abortRun (c := .post) fun _ _ _ => trivial)
    refine .inl (hm.onward.trans (Touch.onward_settled (i := i) (Q := fun _ => False)
      ((Touch.holdAtStep (P := (· = i)) rfl ..).trans (.clearFinisher _)) ?_ ?_))
    · rw [(hm.plates i).state, (h.finishing i).mpr hi]; rfl
    · refine Plate.not_owesDrying_of_held ?_ (.inl ?_)
      · exact congrArg Plate.state (holdAtStep_plate_self _ i .aborted .dried .D)
      · exact congrArg Plate.heldFrom (holdAtStep_plate_self _ i .aborted .dried .D)

/-! ### Drying times -/

/-- A drawer's timer as chapter 8 keeps it. -/
def Drawer.Timed (k : Drawer) : Prop :=
  if k.state = .drying ∨ k.state = .opened then 1 ≤ k.remaining ∧ k.remaining ≤ 28800 else k.remaining = 0

theorem Drawer.Timed.of_wet {k : Drawer} (hs : k.state = .drying ∨ k.state = .opened) :
    k.Timed ↔ 1 ≤ k.remaining ∧ k.remaining ≤ 28800 := by rw [Drawer.Timed, if_pos hs]

theorem Drawer.Timed.tick {k : Drawer} (h : k.Timed) (hs : k.state = .drying) (hr : 1 < k.remaining) :
    Drawer.Timed { k with remaining := k.remaining - 1 } := by
  have h := (of_wet (.inl hs)).mp h
  refine (of_wet (k := { k with remaining := k.remaining - 1 }) (.inl hs)).mpr ?_
  dsimp only
  omega

theorem Drawer.quiet.timed {k : Drawer} (h : k.quiet) : k.Timed := by
  rw [Drawer.Timed, if_neg (not_or.mpr ⟨h.1, h.2.1⟩)]
  exact h.2.2

theorem Onward.dryTimesOk (h : Onward s.wetTime s.owedTime s t) (hs : DryTimesOk s) : DryTimesOk t := by
  have wet {n : Nat} (hn : s.wetTime n) : 1 ≤ n ∧ n ≤ 28800 := by
    obtain ⟨d, hd, rfl⟩ := hn
    exact (Drawer.Timed.of_wet hd).mp (hs.drawers d)
  refine ⟨fun i hi => ?_, fun i => ?_, fun d => ?_⟩
  · rcases (h.plates i).dry with ⟨hd, ho⟩ | ⟨-, ho⟩ | hw
    · rw [hd]; exact hs.plates i (ho hi)
    · rw [ho] at hi; cases hi
    · exact (wet hw).1
  · rcases (h.plates i).dry with ⟨hd, -⟩ | ⟨hd, -⟩ | hw
    · rw [hd]; exact hs.bounded i
    · omega
    · exact (wet hw).2
  · rcases h.drawers d with he | hq | ⟨hst, i, hw, hr⟩
    · rw [he]; exact hs.drawers d
    · exact hq.timed
    · refine (Drawer.Timed.of_wet (.inl hst)).mpr ?_
      rw [hr]
      exact ⟨hs.plates i (Plate.owesDrying_of_state (by simp [hw])).1, hs.bounded i⟩

/-- Only plates and drawers count for the drying times. -/
theorem DryTimesOk.of_eq (h : DryTimesOk s) (hp : t.plates = s.plates) (hd : t.drawers = s.drawers) : DryTimesOk t := by
  have hp (i : Slot) : t.plate i = s.plate i := by simp only [State.plate, hp]
  have hd (d : DrawerIx) : t.drawer d = s.drawer d := by simp only [State.drawer, hd]
  exact ⟨fun i => hp i ▸ h.plates i, fun i => hp i ▸ h.bounded i, fun d => hd d ▸ h.drawers d⟩

/-- A plate's record is changed, and no drawer. -/
theorem DryTimesOk.of_plates (h : DryTimesOk s)
    (hp : ∀ i, t.plate i = s.plate i ∨ ((t.plate i).owesDrying = true → 1 ≤ (t.plate i).dryRemaining)
      ∧ (t.plate i).dryRemaining ≤ 28800) (hd : t.drawers = s.drawers) : DryTimesOk t := by
  have hd (d : DrawerIx) : t.drawer d = s.drawer d := by simp only [State.drawer, hd]
  refine ⟨fun i => ?_, fun i => ?_, fun d => hd d ▸ h.drawers d⟩
  · rcases hp i with e | ⟨h1, -⟩
    · rw [e]; exact h.plates i
    · exact h1
  · rcases hp i with e | ⟨-, h2⟩
    · rw [e]; exact h.bounded i
    · exact h2

theorem DryTimesOk.modDrawer (h : DryTimesOk s) {d : DrawerIx} {f : Drawer → Drawer} (hf : (f (s.drawer d)).Timed) :
    DryTimesOk (s.modDrawer d f) := by
  refine ⟨h.plates, h.bounded, fun e => ?_⟩
  by_cases he : e = d
  · subst he; rw [State.drawer_modDrawer_self]; exact hf
  · rw [State.drawer_modDrawer_ne _ _ he]; exact h.drawers e

theorem clampTo_range {lo hi : Nat} (h : lo ≤ hi) (v : Nat) : lo ≤ clampTo lo hi v ∧ clampTo lo hi v ≤ hi := by
  unfold clampTo
  split
  · exact ⟨le_rfl, h⟩
  · split
    · exact ⟨h, le_rfl⟩
    · omega

theorem drySeconds_range (b m th : Nat) : 600 ≤ drySeconds b m th ∧ drySeconds b m th ≤ 28800 := by
  have h := clampTo_range (show 10 ≤ 480 by decide) (b + ceilDiv (th * m) 100)
  unfold drySeconds
  omega

theorem StoreDeed.dryTimesOk (h : StoreDeed s t) (hs : DryTimesOk s) : DryTimesOk t := by
  have places {u : State} (hu : u.places = s.places) : DryTimesOk u :=
    hs.of_eq (congrArg State.plates hu :) (congrArg State.drawers hu :)
  cases h with
  | still => exact hs
  | clearType | storeType | overdueSecond => exact hs.of_eq rfl rfl
  | storeItem x v => exact places (places_storeItem ..)
  | setMass m _ => exact places (places_evaluateGate _)
  | openDrawer d h =>
    exact hs.modDrawer ((Drawer.Timed.of_wet (.inr rfl)).mpr ((Drawer.Timed.of_wet (.inl h)).mp (hs.drawers d)))
  | closeDrawer d h =>
    exact hs.modDrawer ((Drawer.Timed.of_wet (.inl rfl)).mpr ((Drawer.Timed.of_wet (.inr h)).mp (hs.drawers d)))
  | drawerSecond d h hr => exact hs.modDrawer (Drawer.Timed.tick (hs.drawers d) h hr)

theorem stage_drawers (s : State) (mk : Nat → Plate) (slots : List Slot) : (s.stage mk slots).drawers = s.drawers := by
  obtain ⟨plates, h⟩ := fillCopies_eq mk 0 slots s
  rw [State.stage, h]
  exact (congrArg State.drawers (places_fillList ..) :)

/-- Every deed keeps the drying times. -/
theorem Deed.dryTimesOk (hd : Deed s t) (hl : Located s) (hs : DryTimesOk s) : DryTimesOk t := by
  cases hd with
  | store h => exact h.dryTimesOk hs
  | light h => exact h.lightMove.onward.dryTimesOk hs
  | plate h =>
    rcases h.onward hl with h | ⟨i, -, rfl⟩ | ⟨ix, lot, n, -, -, -, -, -, rfl⟩
    · exact h.dryTimesOk hs
    · refine hs.of_plates (fun j => ?_) rfl
      by_cases hj : j = i
      · subst hj; rw [State.plate_modPlate_self]; exact .inr ⟨fun h => Bool.noConfusion h, Nat.zero_le _⟩
      · exact .inl (State.plate_modPlate_ne _ _ hj)
    · refine hs.of_plates (fun j => ?_) (stage_drawers ..)
      rw [stage_plate ((freeSlots_nodup s).sublist (List.take_sublist ..))]
      split
      · have := drySeconds_range (s.typeRec ix).dryBase (s.typeRec ix).drySlope (s.typeRec ix).thickness
        exact .inr ⟨fun _ => le_trans (by decide) this.1, this.2⟩
      · exact .inl rfl

/-! ### The statement -/

theorem Located.of_line (h : s.line = t.line) (hs : Located s) : Located t := by
  have hp : t.places = s.places := (congrArg State.places h).symm
  exact (located_iff t).mpr (((located_iff s).mp hs).of_places hp)

theorem DryTimesOk.of_line (h : s.line = t.line) (hs : DryTimesOk s) : DryTimesOk t :=
  hs.of_eq (congrArg State.plates h.symm :) (congrArg State.drawers h.symm :)

theorem PhasesOk.of_line (h : s.line = t.line) (hs : PhasesOk s) : PhasesOk t := by
  have hline : PhasesOk t.line := h ▸ (⟨hs.backIdle, hs.faceIdle, hs.backRuns, hs.faceRuns, hs.finishIdle, hs.finishRuns,
    hs.lanes, hs.positions⟩ : PhasesOk s.line)
  exact ⟨hline.backIdle, hline.faceIdle, hline.backRuns, hline.faceRuns, hline.finishIdle, hline.finishRuns,
    hline.lanes, hline.positions⟩

/-- Settles O59, deed by deed. -/
theorem everyStepKeepsThePlatesLocated : Obligations.EveryStepKeepsThePlatesLocated := by
  intro s t hl hp h
  constructor
  · exact step_keeps Located.of_line located_reset (fun he hd => hd.located (hl.of_line he.symm) (hp.of_line he.symm)) h
  · intro hs
    exact step_keeps DryTimesOk.of_line dryTimesOk_reset
      (fun he hd => hd.dryTimesOk (hl.of_line he.symm) (hs.of_line he.symm)) h

end

end Sys2Proof.Machine
end

-- ==== Sys2Proof/Proofs/K ====
section
/-! The plant: what no move of a plate touches but the end of a run and the washout, namely the types, the configuration, the
banks, the channels, the link, the transit list and the dissolved mass. -/

namespace Sys2Proof.Machine

/-- The state with all but the plant as after reset. -/
def State.plant (s : State) : State :=
  { State.reset with
    types := s.types, config := s.config, banks := s.banks, chans := s.chans, link := s.link, transit := s.transit
    solvent := { State.reset.solvent with mass := s.solvent.mass } }

@[simp] theorem plant_modPlate (s : State) (i : Slot) (f : Plate → Plate) : (s.modPlate i f).plant = s.plant := rfl

@[simp] theorem plant_post (s : State) (p : Port) (e : Event) : (s.post p e).plant = s.plant := rfl

@[simp] theorem plant_modDrawer (s : State) (d : DrawerIx) (f : Drawer → Drawer) : (s.modDrawer d f).plant = s.plant := rfl

@[simp] theorem plant_setWaitList (s : State) (l : WaitList) (q : List Slot) : (s.setWaitList l q).plant = s.plant := by
  cases l <;> rfl

@[simp] theorem plant_leaveList (s : State) (l : WaitList) (i : Slot) : (s.leaveList l i).plant = s.plant :=
  plant_setWaitList ..

@[simp] theorem plant_announce (s : State) (l : WaitList) (b : Bool) : (s.announce l b).plant = s.plant := by
  cases b <;> rfl

@[simp] theorem plant_fillList (s : State) (l : WaitList) (q : List Slot) : (s.fillList l q).plant = s.plant := by
  rw [State.fillList, plant_announce, plant_setWaitList]

@[simp] theorem plant_joinTail (s : State) (l : WaitList) (i : Slot) : (s.joinTail l i).plant = s.plant :=
  plant_fillList ..

@[simp] theorem plant_leaveOwnList (s : State) (i : Slot) : (s.leaveOwnList i).plant = s.plant := by
  unfold State.leaveOwnList
  split
  · exact plant_leaveList ..
  · rfl

@[simp] theorem plant_holdAtStep (s : State) (i : Slot) (reason : HoldReason) (from_ : HeldFrom) (p : Port) :
    (s.holdAtStep i reason from_ p).plant = s.plant := rfl

@[simp] theorem plant_offLane (s : State) (i : Slot) : (s.offLane i).plant = s.plant := rfl

@[simp] theorem plant_joinReleased (s : State) (i : Slot) (dest : HeldFrom) : (s.joinReleased i dest).plant = s.plant := by
  cases dest <;> simp [State.joinReleased]

@[simp] theorem plant_placeOnFrame (s : State) (i : Slot) (lane : LanePlace) : (s.placeOnFrame i lane).plant = s.plant := by
  simp [State.placeOnFrame]

@[simp] theorem plant_bedLoaded (s : State) (a b : Option Slot) : (s.bedLoaded a b).plant = s.plant := rfl

@[simp] theorem plant_settleUnloaded (s : State) (i : Slot) (lane : Lane) : (s.settleUnloaded i lane).plant = s.plant := by
  unfold State.settleUnloaded
  split
  · rfl
  split
  · rfl
  split
  · rfl
  · exact plant_joinTail ..

@[simp] theorem plant_settleLane (s : State) (lane : Lane) : (s.settleLane lane).plant = s.plant := by
  unfold State.settleLane
  split
  · exact plant_settleUnloaded ..
  · rfl

@[simp] theorem plant_undoLane (s : State) (ahead : Option Slot) (i : Slot) : (s.undoLane ahead i).plant = s.plant := by
  unfold State.undoLane
  split
  · rfl
  · exact plant_fillList ..

@[simp] theorem plant_undoLoad (s : State) : s.undoLoad.plant = s.plant := by
  unfold State.undoLoad
  split <;> simp

@[simp] theorem plant_foldl_holdAborted (l : List Slot) (s : State) : (l.foldl State.holdAborted s).plant = s.plant := by
  induction l generalizing s with
  | nil => rfl
  | cons i l ih => exact (ih _).trans rfl

@[simp] theorem plant_fillCopies (s : State) (mk : Nat → Plate) (n : Nat) (slots : List Slot) :
    (s.fillCopies mk n slots).plant = s.plant := by
  obtain ⟨plates, h⟩ := fillCopies_eq mk n slots s
  rw [h]; rfl

@[simp] theorem plant_stage (s : State) (mk : Nat → Plate) (slots : List Slot) : (s.stage mk slots).plant = s.plant := by
  simp [State.stage]

@[simp] theorem plant_evaluateGate (s : State) : s.evaluateGate.plant = s.plant := by
  unfold State.evaluateGate
  split
  next h => simp [State.plant, h]
  · have hw (l : Nat) : (s.evaluateWarn l).plant = s.plant := by
      unfold State.evaluateWarn
      split
      · rfl
      · split <;> rfl
    unfold State.evaluateGateState
    dsimp only
    split <;> exact hw _

@[simp] theorem plant_endWash (s : State) (i : Slot) : (s.endWash i).plant = s.plant := by
  unfold State.endWash
  split
  · rfl
  · exact plant_joinTail ..

@[simp] theorem plant_endDrying (s : State) (i : Slot) : (s.endDrying i).plant = s.plant := by
  unfold State.endDrying
  split
  · rfl
  · exact plant_joinTail ..

@[simp] theorem plant_emptyDrawer (s : State) (d : DrawerIx) (i : Slot) : (s.emptyDrawer d i).plant = s.plant := rfl

@[simp] theorem plant_unloadDrawer (s : State) (d : DrawerIx) (i : Slot) : (s.unloadDrawer d i).plant = s.plant := by
  unfold State.unloadDrawer
  split <;> rfl

@[simp] theorem plant_dryExpiry (s : State) (d : DrawerIx) : (s.dryExpiry d).plant = s.plant := by
  unfold State.dryExpiry
  split
  · split
    · simp
    · rfl
  · rfl

@[simp] theorem plant_clearReference (s : State) (i : Slot) : (s.clearReference i).plant = s.plant := by
  unfold State.clearReference
  split <;> rfl

@[simp] theorem plant_settleFinished (s : State) (i : Slot) : (s.settleFinished i).plant = s.plant := by
  unfold State.settleFinished
  split
  · rfl
  split
  · rfl
  split <;> rfl

@[simp] theorem plant_undoFinish (s : State) (i : Slot) : (s.undoFinish i).plant = s.plant := by
  unfold State.undoFinish
  split
  · rfl
  · exact plant_fillList ..

/-- Runs are broken off and channels returned to IDLE. -/
inductive Halts (s : State) : State → Prop
  | refl : Halts s s
  | abort {t : State} (c : Chan) : Halts s t → Halts s (t.abortRun c)
  | idle {t : State} (c : Chan) : Halts s t → Halts s (t.idleChan c)

theorem Halts.foldl_abort {s t : State} (h : Halts s t) (l : List Chan) : Halts s (l.foldl State.abortRun t) := by
  induction l generalizing t with
  | nil => exact h
  | cons c l ih => exact ih (h.abort c)

theorem Halts.foldl_idle {s t : State} (h : Halts s t) (l : List Chan) : Halts s (l.foldl State.idleChan t) := by
  induction l generalizing t with
  | nil => exact h
  | cons c l ih => exact ih (h.idle c)

theorem plant_idleChan {s t : State} (h : s.plant = t.plant) (c : Chan) : (s.idleChan c).plant = (t.idleChan c).plant := by
  have hc : s.chans = t.chans := (congrArg State.chans h :)
  have hs : (s.idleChan c).plant = { s.plant with chans := s.chans.set c.index Channel.idle } := by
    simp [State.idleChan, State.modChan, State.plant]
  have ht : (t.idleChan c).plant = { t.plant with chans := t.chans.set c.index Channel.idle } := by
    simp [State.idleChan, State.modChan, State.plant]
  rw [hs, ht, h, hc]

theorem plant_clearBed {s t : State} (h : s.plant = t.plant) :
    s.clearBed.plant = ([Chan.backA, .backB, .faceA, .faceB].foldl State.idleChan t).plant :=
  plant_idleChan (plant_idleChan (plant_idleChan (plant_idleChan h .backA) .backB) .faceA) .faceB

theorem plant_clearFinisher {s t : State} (h : s.plant = t.plant) :
    s.clearFinisher.plant = ((t.idleChan .detack).idleChan .post).plant :=
  plant_idleChan (plant_idleChan h .detack) .post

/-- What a deed on plates does to the plant: it ends runs, or changes the transit list, or books a mass. -/
theorem PlateDeed.plant_cases {s t : State} (h : PlateDeed s t) :
    (∃ u, Halts s u ∧ t.plant = u.plant)
      ∨ (∃ l, l.length = s.transit.length ∧ t.plant = State.plant { s with transit := l })
      ∨ (∃ e, s.solvent.gate = .opened ∧ s.transit.length < 3
        ∧ t.plant = State.plant { s with transit := s.transit ++ [e] })
      ∨ ∃ i, s.inTransit i = true ∧ t.plant = ((s.leaveTransit i).book i).plant := by
  have still {u : State} (hu : u.plant = s.plant) : ∃ u', Halts s u' ∧ u.plant = u'.plant := ⟨s, .refl, hu⟩
  cases h with
  | overdue i hi =>
    refine .inr (.inl ⟨s.transit.map fun e => if e.runsOut i then { e with remaining := 0, expired := true } else e,
      List.length_map .., ?_⟩)
    rw [State.overdueExpiry, if_pos hi]
    rfl
  | claim i hg hl _ => exact .inr (.inr (.inl ⟨_, hg, hl, rfl⟩))
  | washDone i hi => exact .inr (.inr (.inr ⟨i, hi, by simp⟩))
  | washFault i hi => exact .inr (.inr (.inr ⟨i, hi, by simp⟩))
  | unload _ => exact .inl ⟨_, Halts.refl.foldl_idle _, plant_clearBed (by simp)⟩
  | breakOffLoad =>
    exact .inl ⟨_, (Halts.refl.foldl_abort _).foldl_idle _, plant_clearBed (plant_foldl_holdAborted ..)⟩
  | clearFinisher _ => exact .inl ⟨_, (Halts.refl.idle .detack).idle .post, plant_clearFinisher rfl⟩
  | unloadFinisher i _ => exact .inl ⟨_, (Halts.refl.idle .detack).idle .post, plant_clearFinisher (by simp)⟩
  | breakOffFinish i _ =>
    exact .inl ⟨_, (((Halts.refl.abort .detack).abort .post).idle .detack).idle .post, plant_clearFinisher rfl⟩
  | undoFinish i _ => exact .inl (still (plant_undoFinish ..))
  | undoLoad _ => exact .inl (still (plant_undoLoad ..))
  | loadFinisher i _ _ => exact .inl (still (by exact (plant_clearReference ..).trans (plant_leaveList ..)))
  | loadDrawer d i _ _ => exact .inl (still (by exact plant_leaveList ..))
  | unloadDrawer d i _ => exact .inl (still (plant_unloadDrawer ..))
  | dryExpiry d => exact .inl (still (plant_dryExpiry ..))
  | _ => exact .inl (still (by simp))

end Sys2Proof.Machine
end

-- ==== Sys2Proof/Proofs/L ====
section
/-! The figures of the channels, of the link and of the banks, kept by whatever the light does. -/

namespace Sys2Proof.Machine

/-- Ranges that the light keeps: of a need, a limit and an interval, and of a bank's record. -/
structure Bounds where
  need : Nat → Prop
  limit : Nat → Prop
  interval : Nat → Prop
  bank : BankRec → Prop

/-- Ranges of a bank's record that each change of one keeps (R51, R95 to R97). -/
structure Bounds.Lawful (b : Bounds) : Prop where
  learn : ∀ k r, b.bank k → 1 ≤ r → r ≤ 65535 → b.bank { k with ref := some r }
  ready : ∀ k, b.bank k → b.bank { k with state := .ready, warm := 0 }
  off : ∀ k, b.bank k → b.bank { k with state := .off, warm := 0 }
  warming : ∀ k n, b.bank k → 1 ≤ n → n ≤ 600 → b.bank { k with state := .warming, warm := n }
  tick : ∀ k, b.bank k → k.state = .warming → 1 < k.warm → b.bank { k with warm := k.warm - 1 }

/-- A channel's figures within bounds, and its accumulator no more than the top of a sensor's range makes of its elapsed
time (R48). -/
structure Channel.Within (b : Bounds) (k : Channel) : Prop where
  need : ∀ n ∈ k.need, b.need n
  limit : ∀ l ∈ k.limit, b.limit l
  interval : ∀ ts ∈ k.interval, b.interval ts
  lastGood : k.lastGood ≤ 65535
  accumulator : k.accumulator ≤ 65535 * k.elapsed

/-- The figures of the light within bounds, that of an interval that begins now among them. -/
structure Figures (b : Bounds) (s : State) : Prop where
  channels : ∀ c, (s.chan c).Within b
  due : ∀ c : Chan, ∀ ts ∈ s.link.due[c.index], b.interval ts
  busy : ∀ r ∈ s.link.busy, b.interval r.ts
  banks : ∀ k, b.bank (s.bank k)
  now : b.interval s.intervalNow

theorem Channel.idle_within (b : Bounds) : Channel.idle.Within b :=
  ⟨by simp [Channel.idle], by simp [Channel.idle], by simp [Channel.idle], by simp [Channel.idle], by simp [Channel.idle]⟩

/-- A channel's record with the same figures, or with no interval. -/
theorem Channel.Within.of_same {b : Bounds} {k l : Channel} (h : k.Within b) (hn : l.need = k.need) (hl : l.limit = k.limit)
    (hi : l.interval = k.interval ∨ l.interval = none) (hg : l.lastGood = k.lastGood)
    (ha : l.accumulator = k.accumulator) (he : l.elapsed = k.elapsed) : l.Within b := by
  refine ⟨hn ▸ h.need, hl ▸ h.limit, ?_, hg ▸ h.lastGood, by rw [ha, he]; exact h.accumulator⟩
  rcases hi with hi | hi
  · exact hi ▸ h.interval
  · simp [hi]

theorem roundDiv_le {n d m : Nat} (hd : 0 < d) (h : n ≤ m * d) : roundDiv n d ≤ m := by
  unfold roundDiv
  have : 2 * n + d < (m + 1) * (2 * d) := by nlinarith
  exact Nat.le_of_lt_succ ((Nat.div_lt_iff_lt_mul (by omega)).mpr this)

/-- A reference irradiance is at least 1, and no more than the top of a sensor's range (R51). -/
theorem referenceOf_range {acc elapsed : Nat} (he : 0 < elapsed) (h : acc ≤ 65535 * elapsed) :
    1 ≤ referenceOf acc elapsed ∧ referenceOf acc elapsed ≤ 65535 :=
  ⟨le_max_left .., max_le (by decide) (roundDiv_le he h)⟩

namespace Figures
variable {b : Bounds} {s t : State} {c : Chan}

theorem of_eq (h : Figures b s) (hc : t.chans = s.chans) (hl : t.link = s.link) (hb : t.banks = s.banks)
    (hi : t.config = s.config) : Figures b t := by
  refine ⟨fun c => ?_, hl ▸ h.due, hl ▸ h.busy, fun k => ?_, ?_⟩
  · rw [show t.chan c = s.chan c by simp only [State.chan, hc]]; exact h.channels c
  · rw [show t.bank k = s.bank k by simp only [State.bank, hb]]; exact h.banks k
  · rw [show t.intervalNow = s.intervalNow by simp only [State.intervalNow, State.item, hi]]; exact h.now

theorem of_plant (h : Figures b s) (hp : t.plant = s.plant) : Figures b t :=
  h.of_eq (congrArg State.chans hp :) (congrArg State.link hp :) (congrArg State.banks hp :) (congrArg State.config hp :)

theorem modChan (h : Figures b s) {f : Channel → Channel} (hf : (f (s.chan c)).Within b) : Figures b (s.modChan c f) := by
  refine ⟨fun d => ?_, h.due, h.busy, h.banks, h.now⟩
  by_cases hd : d = c
  · subst hd; rw [State.chan_modChan_self]; exact hf
  · rw [State.chan_modChan_ne _ _ hd]; exact h.channels d

/-- A channel's record is changed in nothing that is bounded. -/
theorem modChan_same (h : Figures b s) {f : Channel → Channel} (hn : (f (s.chan c)).need = (s.chan c).need)
    (hl : (f (s.chan c)).limit = (s.chan c).limit)
    (hi : (f (s.chan c)).interval = (s.chan c).interval ∨ (f (s.chan c)).interval = none)
    (hg : (f (s.chan c)).lastGood = (s.chan c).lastGood) (ha : (f (s.chan c)).accumulator = (s.chan c).accumulator)
    (he : (f (s.chan c)).elapsed = (s.chan c).elapsed) : Figures b (s.modChan c f) :=
  h.modChan ((h.channels c).of_same hn hl hi hg ha he)

theorem setLink (h : Figures b s) {k : Link} (hd : ∀ c : Chan, ∀ ts ∈ k.due[c.index], b.interval ts)
    (hb : ∀ r ∈ k.busy, b.interval r.ts) : Figures b { s with link := k } := ⟨h.channels, hd, hb, h.banks, h.now⟩

theorem modBank (h : Figures b s) {e : Bank} {f : BankRec → BankRec} (hf : b.bank (f (s.bank e))) :
    Figures b (s.modBank e f) := by
  refine ⟨h.channels, h.due, h.busy, fun k => ?_, h.now⟩
  by_cases hk : k = e
  · subst hk; rw [State.bank_modBank_self]; exact hf
  · rw [State.bank_modBank_ne _ _ hk]; exact h.banks k

theorem foldl {α : Type} {f : State → α → State} (hf : ∀ t a, Figures b t → Figures b (f t a)) (l : List α)
    (h : Figures b s) : Figures b (l.foldl f s) := by
  induction l generalizing s with
  | nil => exact h
  | cons a l ih => exact ih (hf s a h)

/-- A due list with one request changed. -/
theorem due_set (h : Figures b s) (c : Chan) {o : Option Nat} (ho : ∀ ts ∈ o, b.interval ts) (d : Chan) :
    ∀ ts ∈ (s.link.due.set c.index o)[d.index], b.interval ts := by
  by_cases hd : c.index = d.index
  · simpa [hd] using ho
  · have hset : (s.link.due.set c.index o)[d.index] = s.link.due[d.index] :=
      Vector.getElem_set_ne _ _ fun e => hd (Fin.ext e)
    rw [hset]
    exact h.due d

theorem modPlateOpt (h : Figures b s) (o : Option Slot) (f : Plate → Plate) : Figures b (s.modPlate? o f) := by
  cases o <;> exact h.of_eq rfl rfl rfl rfl

theorem post (h : Figures b s) (p : Port) (e : Event) : Figures b (s.post p e) := h.of_eq rfl rfl rfl rfl

theorem withdraw (h : Figures b s) (c : Chan) : Figures b (s.withdraw c) := by
  have hl : Figures b { s with link := s.link.drop c } := by
    refine h.setLink (h.due_set c (by simp)) fun r hr => ?_
    obtain ⟨q, hq, rfl⟩ := Option.map_eq_some_iff.mp hr
    have := h.busy q hq
    split <;> exact this
  exact hl.modChan_same rfl rfl (.inl rfl) rfl rfl rfl

theorem stopChan (h : Figures b s) (res : StopResult) (c : Chan) : Figures b (s.stopChan res c) :=
  (h.withdraw c).modChan_same rfl rfl (.inr rfl) rfl rfl rfl

theorem failChan (h : Figures b s) (c : Chan) : Figures b (s.failChan c) :=
  (h.withdraw c).modChan_same rfl rfl (.inr rfl) rfl rfl rfl

theorem idleChan (h : Figures b s) (c : Chan) : Figures b (s.idleChan c) := h.modChan (Channel.idle_within b)

theorem pauseChan (h : Figures b s) (c : Chan) : Figures b (s.pauseChan c) := by
  unfold State.pauseChan
  split
  · exact (h.withdraw c).modChan_same rfl rfl (.inr rfl) rfl rfl rfl
  · exact h

theorem withInterval {k l : Channel} (h : k.Within b) {ts : Nat} (hts : b.interval ts) (hn : l.need = k.need)
    (hl : l.limit = k.limit) (hi : l.interval = some ts) (hg : l.lastGood = k.lastGood)
    (ha : l.accumulator = k.accumulator) (he : l.elapsed = k.elapsed) : l.Within b :=
  ⟨hn ▸ h.need, hl ▸ h.limit, by rw [hi]; rintro _ ⟨⟩; exact hts, hg ▸ h.lastGood, by rw [ha, he]; exact h.accumulator⟩

theorem resumeChan (h : Figures b s) (c : Chan) : Figures b (s.resumeChan c) := by
  unfold State.resumeChan
  split
  · exact h.modChan (withInterval (h.channels c) h.now rfl rfl rfl rfl rfl rfl)
  · exact h

theorem fallDue (h : Figures b s) (c : Chan) : Figures b (s.fallDue c) := by
  have hl : Figures b { s with link := { s.link with due := s.link.due.set c.index (s.chan c).interval } } :=
    h.setLink (h.due_set c (h.channels c).interval) h.busy
  exact hl.modChan (withInterval (hl.channels c) h.now rfl rfl rfl rfl rfl rfl)

theorem endRead (h : Figures b s) (r : LinkRead) (answer : Option Word) : Figures b (s.endRead r answer) := by
  have hl : Figures b { s with
      link := { s.link with busy := none, wire := wireHead r.chan.sensorAddress ++ wireTail answer } } :=
    h.setLink h.due (by simp)
  exact hl.modChan_same rfl rfl (.inl rfl) rfl rfl rfl

theorem beginRead (h : Figures b s) : Figures b { s with link := s.link.begin } := by
  unfold Link.begin
  split
  · exact h
  · split
    next c ts hn =>
      obtain ⟨d, hd⟩ := List.exists_of_findSome?_eq_some hn
      obtain ⟨-, hd⟩ := hd
      obtain ⟨ts', hts, he⟩ := Option.map_eq_some_iff.mp hd
      cases he
      exact h.setLink (h.due_set c (by simp)) fun r hr => by cases hr; exact h.due c ts hts
    · exact h

theorem deliver (h : Figures b s) (c : Chan) (n : Nat) : Figures b (s.deliver c n) := h.modPlateOpt ..

theorem markPlate (h : Figures b s) (c : Chan) (m : Mark) : Figures b (s.markPlate c m) := h.modPlateOpt ..

theorem noteShort (h : Figures b s) (c : Chan) : Figures b (s.noteShort c) := by
  unfold State.noteShort
  split <;> exact h.of_eq rfl rfl rfl rfl

theorem noteFailure (h : Figures b s) (c : Chan) : Figures b (s.noteFailure c) := by
  unfold State.noteFailure
  split <;> exact h.of_eq rfl rfl rfl rfl

theorem checkPhase (h : Figures b s) (c : Chan) : Figures b (s.checkPhase c) := by
  have frame : Figures b s.checkFramePhase := by
    unfold State.checkFramePhase
    split
    · split
      · exact h
      · exact h.of_eq rfl rfl rfl rfl
    · split
      · exact h
      · exact h.of_eq rfl rfl rfl rfl
    all_goals exact h
  have finish : Figures b s.checkFinishPhase := by
    unfold State.checkFinishPhase
    split
    · split
      · exact h
      · exact h.of_eq rfl rfl rfl rfl
    all_goals exact h
  unfold State.checkPhase
  split
  · exact frame
  · exact finish

/-- The count a run is judged by is no more than the top of a sensor's range makes of the time it is formed with
(R48, R114). -/
theorem runAccumulator_le (h : Figures b s) (c : Chan) : s.runAccumulator c ≤ 65535 * s.refElapsed c := by
  unfold State.runAccumulator State.refElapsed
  split
  next d _ =>
    have hc := (h.channels c).accumulator
    have hd := (h.channels d).accumulator
    unfold higherChan lowerChan
    split <;> split <;> omega
  · exact (h.channels c).accumulator

theorem learnReference (hb : b.Lawful) (h : Figures b s) (e : Bank) {acc elapsed : Nat} (ha : acc ≤ 65535 * elapsed) :
    Figures b (s.learnReference e acc elapsed) := by
  unfold State.learnReference
  split
  next he =>
    obtain ⟨h1, h2⟩ := referenceOf_range he ha
    exact h.modBank (hb.learn _ _ (h.banks e) h1 h2)
  · exact h

theorem stopReached (hb : b.Lawful) (h : Figures b s) (c : Chan) : Figures b (s.stopReached c) :=
  (((h.foldl (fun _ d ht => ht.stopChan .reached d) _).deliver ..).learnReference hb _ (h.runAccumulator_le c)).post ..

theorem stopTimeLimit (h : Figures b s) (c : Chan) : Figures b (s.stopTimeLimit c) :=
  ((((h.foldl (fun _ d ht => ht.stopChan .timeLimit d) _).deliver ..).markPlate ..).post ..).foldl
    (fun _ d ht => ht.noteShort d) _

theorem failRun (h : Figures b s) (c : Chan) : Figures b (s.failRun c) :=
  ((((h.foldl (fun _ d ht => ht.failChan d) _).deliver ..).markPlate ..).post ..).foldl (fun _ d ht => ht.noteFailure d) _

theorem abortRun (h : Figures b s) (c : Chan) : Figures b (s.abortRun c) := by
  unfold State.abortRun
  split
  · exact (h.foldl (fun _ d ht => ht.stopChan .aborted d) _).deliver ..
  · exact h

theorem testRun (hb : b.Lawful) (h : Figures b s) (c : Chan) : Figures b (s.testRun c) := by
  unfold State.testRun
  split
  · exact (h.stopReached hb c).checkPhase c
  · split
    · exact (h.stopTimeLimit c).checkPhase c
    · exact h

theorem creditSample (hb : b.Lawful) (h : Figures b s) (c : Chan) {reading : Nat} (hr : reading ≤ 65535) (ts : Nat) :
    Figures b (s.creditSample c reading ts) := by
  have hc := h.channels c
  refine testRun hb (h.modChan ⟨hc.need, hc.limit, hc.interval, hc.lastGood, ?_⟩) c
  have ha := hc.accumulator
  have hm : reading * ts ≤ 65535 * ts := Nat.mul_le_mul_right _ hr
  calc doseAdd (s.chan c).accumulator (reading * ts) ≤ (s.chan c).accumulator + reading * ts := Nat.min_le_right ..
    _ ≤ 65535 * ((s.chan c).elapsed + ts) := by omega

theorem goodSample (hb : b.Lawful) (h : Figures b s) (c : Chan) {reading : Nat} (hr : reading ≤ 65535) (ts : Nat) :
    Figures b (s.goodSample c reading ts) := by
  have hc := h.channels c
  have hm : Figures b (s.modChan c fun k => { k with lastGood := reading, badCount := 0 }) :=
    h.modChan ⟨hc.need, hc.limit, hc.interval, hr, hc.accumulator⟩
  unfold State.goodSample
  dsimp only
  split
  · exact (hm.markPlate ..).creditSample hb c hr ts
  · exact hm.creditSample hb c hr ts

theorem badSample (hb : b.Lawful) (h : Figures b s) (c : Chan) (ts : Nat) : Figures b (s.badSample c ts) := by
  have hm : Figures b (s.modChan c fun k => { k with badCount := k.badCount + 1 }) :=
    h.modChan_same rfl rfl (.inl rfl) rfl rfl rfl
  unfold State.badSample
  dsimp only
  split
  · exact hm.creditSample hb c (h.channels c).lastGood ts
  · exact (hm.failRun c).checkPhase c

theorem readComplete (hb : b.Lawful) (h : Figures b s) (answer : Option Word) : Figures b (s.readComplete answer) := by
  unfold State.readComplete
  split
  next r _ =>
    have he := h.endRead r answer
    unfold State.creditRead
    split
    · cases answer with
      | some v => exact he.goodSample hb r.chan (Nat.le_of_lt_succ v.isLt) r.ts
      | none => exact he.badSample hb r.chan r.ts
    · exact he
  · exact h

theorem sampleDue (h : Figures b s) (c : Chan) : Figures b (s.sampleDue c) := by
  unfold State.sampleDue
  split
  · exact h.foldl (fun _ d ht => ht.fallDue d) _
  · exact h

/-! ### Starting -/

theorem started_within {need : Int} {limit ts : Nat} (hn : 0 < need → b.need need.toNat) (hl : b.limit limit)
    (hts : b.interval ts) (i : Slot) (partner : Option Chan) : (startedChannel i partner need limit ts).Within b := by
  refine ⟨?_, by rintro _ ⟨⟩; exact hl, ?_, by simp [startedChannel, Channel.idle], by simp [startedChannel, Channel.idle]⟩
  · unfold startedChannel
    dsimp only
    split
    next h => rintro _ ⟨⟩; exact hn h
    · simp
  · unfold startedChannel
    dsimp only
    split
    · rintro _ ⟨⟩; exact hts
    · simp

theorem startSingle (hb : b.Lawful) (h : Figures b s) (c : Chan) (i : Slot) {need : Int} {limit : Nat}
    (hn : 0 < need → b.need need.toNat) (hl : b.limit limit) : Figures b (s.startSingle c i need limit) := by
  have hm : Figures b (s.modChan c fun _ => startedChannel i none need limit s.intervalNow) :=
    h.modChan (started_within hn hl h.now ..)
  unfold State.startSingle
  dsimp only
  split
  · exact hm
  · exact hm.stopReached hb c

theorem startPair (hb : b.Lawful) (h : Figures b s) (c d : Chan) (i : Slot) {need : Int} {limit : Nat}
    (hn : 0 < need → b.need need.toNat) (hl : b.limit limit) : Figures b (s.startPair c d i need limit) := by
  have hm : Figures b ((s.modChan c fun _ => startedChannel i (some d) need limit s.intervalNow).modChan d
      fun _ => startedChannel i (some c) need limit s.intervalNow) :=
    (h.modChan (started_within hn hl h.now ..)).modChan (started_within hn hl h.now ..)
  unfold State.startPair
  dsimp only
  split
  · exact hm
  · exact hm.stopReached hb c

/-! ### The banks -/

theorem bankBecomesReady (hb : b.Lawful) (h : Figures b s) (e : Bank) : Figures b (s.bankBecomesReady e) :=
  ((h.modBank (f := fun k => { k with state := .ready, warm := 0 }) (hb.ready _ (h.banks e))).post ..).foldl
    (fun _ d ht => ht.resumeChan d) _

theorem bankOn (hb : b.Lawful) (h : Figures b s) {e : Bank} (hw : s.item e.warmItem ≤ 600) : Figures b (s.bankOn e) := by
  unfold State.bankOn
  split
  · split
    · exact h.bankBecomesReady hb e
    next hz => exact h.modBank (hb.warming _ _ (h.banks e) (Nat.one_le_iff_ne_zero.mpr hz) hw)
  · exact h
  · exact h

theorem bankOff (hb : b.Lawful) (h : Figures b s) (e : Bank) : Figures b (s.bankOff e) :=
  (h.modBank (f := fun k => { k with state := .off, warm := 0 }) (hb.off _ (h.banks e))).foldl
    (fun _ d ht => ht.pauseChan d) _

theorem warmExpiry (hb : b.Lawful) (h : Figures b s) (e : Bank) : Figures b (s.warmExpiry e) := by
  unfold State.warmExpiry
  split
  · exact h.bankBecomesReady hb e
  · exact h

theorem warmSecond (hb : b.Lawful) (h : Figures b s) (e : Bank) : Figures b (s.decrement (.warm e)) := by
  simp only [State.decrement]
  split
  next hw => exact h.modBank (hb.tick _ (h.banks e) hw.1 hw.2)
  · exact h

end Figures

end Sys2Proof.Machine
end

-- ==== Sys2Proof/Proofs/M ====
section
/-! The figures of the light after every deed: what a start needs of the plate that it starts a channel for, and the two
ranges of figures that O56 speaks of. -/

namespace Sys2Proof.Machine

section
variable {b : Bounds} {s t : State} {i : Slot}

/-- What the bounds ask of a plate that a channel may be started for: of its needs, which are no more than its targets, and
of its type's time limits. -/
structure State.Startable (b : Bounds) (s : State) (i : Slot) : Prop where
  back : ∀ n, 1 ≤ n → n ≤ (s.plate i).backTarget * 100000 → b.need n
  face : ∀ n, 1 ≤ n → n ≤ (s.plate i).faceTarget * 100000 → b.need n
  detack : ∀ n, 1 ≤ n → n ≤ (s.plateType i).detackDose * 100000 → b.need n
  post : ∀ n, 1 ≤ n → n ≤ (s.plateType i).postDose * 100000 → b.need n
  backLimit : b.limit ((s.plateType i).backMaxS * 1000)
  faceLimit : b.limit ((s.plateType i).faceMaxS * 1000)
  detackLimit : b.limit ((s.plateType i).detackMaxS * 1000)
  postLimit : b.limit ((s.plateType i).postMaxS * 1000)

theorem phaseNeed_range {target delivered : Nat} (h : 0 < phaseNeed target delivered) :
    1 ≤ (phaseNeed target delivered).toNat ∧ (phaseNeed target delivered).toNat ≤ target * 100000 := by
  unfold phaseNeed at *
  omega

theorem State.Startable.backNeed (h : s.Startable b i) (hn : 0 < s.backNeed i) : b.need (s.backNeed i).toNat :=
  h.back _ (phaseNeed_range hn).1 (phaseNeed_range hn).2

theorem State.Startable.faceNeed (h : s.Startable b i) (hn : 0 < s.faceNeed i) : b.need (s.faceNeed i).toNat :=
  h.face _ (phaseNeed_range hn).1 (phaseNeed_range hn).2

theorem State.Startable.detackNeed (h : s.Startable b i) (hn : 0 < s.detackNeed i) : b.need (s.detackNeed i).toNat :=
  h.detack _ (phaseNeed_range hn).1 (phaseNeed_range hn).2

theorem State.Startable.postNeed (h : s.Startable b i) (hn : 0 < s.postNeed i) : b.need (s.postNeed i).toNat :=
  h.post _ (phaseNeed_range hn).1 (phaseNeed_range hn).2

/-- Light leaves a plate as startable as it was. -/
theorem State.Startable.of_light {P : Slot → Prop} (h : s.Startable b i) (hm : LightMove P s t) : t.Startable b i := by
  have hl := ((hm.plates i).later 0 0).label
  have hback : (t.plate i).backTarget = (s.plate i).backTarget := (congrArg Plate.backTarget hl :)
  have hface : (t.plate i).faceTarget = (s.plate i).faceTarget := (congrArg Plate.faceTarget hl :)
  have hix : (t.plate i).typeIx = (s.plate i).typeIx := (congrArg Plate.typeIx hl :)
  have htypes : t.types = s.types := (congrArg State.types hm.rest :)
  have htype : t.plateType i = s.plateType i := by simp only [State.plateType, State.typeRec, htypes, hix]
  refine ⟨?_, ?_, ?_, ?_, ?_, ?_, ?_, ?_⟩
  · rw [hback]; exact h.back
  · rw [hface]; exact h.face
  all_goals rw [htype]
  · exact h.detack
  · exact h.post
  · exact h.backLimit
  · exact h.faceLimit
  · exact h.detackLimit
  · exact h.postLimit

namespace Figures

theorem startBackLane (hb : b.Lawful) (h : Figures b s) (c : Chan) {lane : Lane}
    (hi : ∀ i, lane.slot = some i → s.Startable b i) : Figures b (s.startBackLane c lane) := by
  unfold State.startBackLane
  split
  next i hs =>
    exact h.startSingle hb c i (hi i hs).backNeed (hi i hs).backLimit
  · exact h

theorem startFaceLane (hb : b.Lawful) (h : Figures b s) (c : Chan) {lane : Lane}
    (hi : ∀ i, lane.slot = some i → s.Startable b i) : Figures b (s.startFaceLane c lane) := by
  unfold State.startFaceLane
  split
  next i hs =>
    split
    · exact h
    · exact h.startSingle hb c i (hi i hs).faceNeed (hi i hs).faceLimit
  · exact h

theorem startBackChannels (hb : b.Lawful) (h : Figures b s) (ha : ∀ i, s.frame.laneA.slot = some i → s.Startable b i)
    (hB : ∀ i, s.frame.laneB.slot = some i → s.Startable b i) : Figures b s.startBackChannels := by
  unfold State.startBackChannels
  split
  · split
    next i hs =>
      exact h.startPair hb _ _ i (ha i hs).backNeed (ha i hs).backLimit
    · exact h
  · refine (h.startBackLane hb .backA ha).startBackLane hb .backB fun i hs => (hB i hs).of_light
      (LightMove.startBackLane (P := fun _ => True) (fun _ _ => trivial) ..)

theorem startFaceChannels (hb : b.Lawful) (h : Figures b s) (ha : ∀ i, s.frame.laneA.slot = some i → s.Startable b i)
    (hB : ∀ i, s.frame.laneB.slot = some i → s.Startable b i) : Figures b s.startFaceChannels := by
  unfold State.startFaceChannels
  split
  · split
    next i hs =>
      split
      · exact h
      · exact h.startPair hb _ _ i (ha i hs).faceNeed (ha i hs).faceLimit
    · exact h
  · refine (h.startFaceLane hb .faceA ha).startFaceLane hb .faceB fun i hs => (hB i hs).of_light
      (LightMove.startFaceLane (P := fun _ => True) (fun _ _ => trivial) ..)

theorem startFinishing (hb : b.Lawful) (h : Figures b s) (hf : ∀ i, s.finisher.slot = some i → s.Startable b i) :
    Figures b s.startFinishing := by
  unfold State.startFinishing
  split
  next i hs =>
    have h1 := h.startSingle hb .detack i (hf i hs).detackNeed (hf i hs).detackLimit
    exact h1.startSingle hb .post i (hf i hs).postNeed (hf i hs).postLimit
  · exact h

end Figures

theorem State.Startable.of_eq (h : s.Startable b i) (hp : t.plates = s.plates) (ht : t.types = s.types) :
    t.Startable b i := by
  have hplate : t.plate i = s.plate i := by simp only [State.plate, hp]
  have htype : t.plateType i = s.plateType i := by simp only [State.plateType, State.typeRec, ht, hplate]
  obtain ⟨h1, h2, h3, h4, h5, h6, h7, h8⟩ := h
  rw [← hplate] at h1 h2
  rw [← htype] at h3 h4 h5 h6 h7 h8
  exact ⟨h1, h2, h3, h4, h5, h6, h7, h8⟩

/-- The figures after what the light does, when the plates on the bed and in the finisher position are startable. -/
theorem LightDeed.figures (hd : LightDeed s t) (hb : b.Lawful) (h : Figures b s)
    (hw : ∀ e : Bank, s.item e.warmItem ≤ 600) (ha : ∀ i, s.frame.laneA.slot = some i → s.Startable b i)
    (hB : ∀ i, s.frame.laneB.slot = some i → s.Startable b i)
    (hf : ∀ i, s.finisher.slot = some i → s.Startable b i) : Figures b t := by
  cases hd with
  | bankOn e => exact h.bankOn hb (hw e)
  | bankOff e => exact h.bankOff hb e
  | startBack _ =>
    have h1 : Figures b (s.setFrameState .backRun) := h.of_eq rfl rfl rfl rfl
    exact (h1.startBackChannels hb (fun i hi => (ha i hi).of_eq rfl rfl) fun i hi => (hB i hi).of_eq rfl rfl).checkPhase .backA
  | startFace _ =>
    have h1 : Figures b (s.setFrameState .faceRun) := h.of_eq rfl rfl rfl rfl
    exact (h1.startFaceChannels hb (fun i hi => (ha i hi).of_eq rfl rfl) fun i hi => (hB i hi).of_eq rfl rfl).checkPhase .faceA
  | startFinisher _ =>
    have h1 : Figures b { s with finisher := { s.finisher with state := .running } } := h.of_eq rfl rfl rfl rfl
    exact (h1.startFinishing hb fun i hi => (hf i hi).of_eq rfl rfl).checkPhase .detack
  | warmExpiry e => exact h.warmExpiry hb e
  | warmSecond e => exact h.warmSecond hb e
  | sampleDue c => exact h.sampleDue c
  | readStart => exact h.beginRead
  | readComplete a => exact h.readComplete hb a

theorem Figures.halts (h : Figures b s) (hh : Halts s t) : Figures b t := by
  induction hh with
  | refl => exact h
  | abort c _ ih => exact ih.abortRun c
  | idle c _ ih => exact ih.idleChan c

theorem PlateDeed.figures (hd : PlateDeed s t) (h : Figures b s) : Figures b t := by
  rcases hd.plant_cases with ⟨u, hu, he⟩ | ⟨l, -, he⟩ | ⟨e, -, -, he⟩ | ⟨i, -, he⟩
  · exact (h.halts hu).of_plant he
  · exact (h.of_eq rfl rfl rfl rfl : Figures b { s with transit := l }).of_plant he
  · exact (h.of_eq rfl rfl rfl rfl : Figures b { s with transit := s.transit ++ [e] }).of_plant he
  · refine Figures.of_plant (s := (s.leaveTransit i).book i) ?_ he
    unfold State.book
    split <;> exact h.of_eq rfl rfl rfl rfl

/-- What only a stored item changes: the configuration. -/
theorem StoreDeed.plant_eq (hd : StoreDeed s t) :
    (t.chans = s.chans ∧ t.link = s.link ∧ t.banks = s.banks)
      ∧ (t.config = s.config ∨ ∃ x v, t.config = (s.setItem x (s.configValue x v)).config) := by
  have same {u : State} (hu : u.plant = s.plant) : (u.chans = s.chans ∧ u.link = s.link ∧ u.banks = s.banks) ∧
      (u.config = s.config ∨ ∃ x v, u.config = (s.setItem x (s.configValue x v)).config) :=
    ⟨⟨(congrArg State.chans hu :), (congrArg State.link hu :), (congrArg State.banks hu :)⟩,
      .inl (congrArg State.config hu :)⟩
  cases hd with
  | still => exact same rfl
  | clearType | storeType | overdueSecond => exact ⟨⟨rfl, rfl, rfl⟩, .inl rfl⟩
  | openDrawer | closeDrawer | drawerSecond => exact same rfl
  | setMass m _ =>
    have hp : (s.setMass m).evaluateGate.plant = (s.setMass m).plant := plant_evaluateGate _
    exact ⟨⟨(congrArg State.chans hp :), (congrArg State.link hp :), (congrArg State.banks hp :)⟩,
      .inl (congrArg State.config hp :)⟩
  | storeItem x v =>
    unfold State.storeItem State.itemChanged
    split
    · exact same rfl
    · split
      · have hp := plant_evaluateGate (s.setItem x (s.configValue x v))
        exact ⟨⟨(congrArg State.chans hp :), (congrArg State.link hp :), (congrArg State.banks hp :)⟩,
          .inr ⟨x, v, (congrArg State.config hp :)⟩⟩
      · exact ⟨⟨rfl, rfl, rfl⟩, .inr ⟨x, v, rfl⟩⟩

end

end Sys2Proof.Machine
end

-- ==== Sys2Proof/Proofs/N ====
section
/-! The figures of the configuration, of the types and of the plates, each kept by every deed. -/

namespace Sys2Proof.Machine

section
variable {s t : State}

/-! ### The configuration (R185) -/

theorem Item.range_le (x : Item) : x.range.1 ≤ x.range.2 := by cases x <;> decide

theorem configValue_range (h : SettingsOk s) (x : Item) (v : Nat) :
    x.range.1 ≤ s.configValue x v ∧ s.configValue x v ≤ x.range.2 := by
  have hc := clampTo_range x.range_le v
  unfold State.configValue
  cases x
  case vMin =>
    have := (h.range .vMax).1
    simp only [State.pairClamp, Item.range] at *
    omega
  case vMax =>
    have := (h.range .vMin).2
    simp only [State.pairClamp, Item.range] at *
    omega
  case lResume =>
    have := (h.range .lHold).1
    simp only [State.pairClamp, Item.range] at *
    omega
  case lHold =>
    have := (h.range .lResume).2
    simp only [State.pairClamp, Item.range] at *
    omega
  all_goals exact hc

/-- The items of a state with one stored. -/
theorem item_of_config {x : Item} {v : Nat} (h : t.config = (s.setItem x v).config) (y : Item) :
    t.item y = if y = x then v else s.item y := by
  have ht : t.item y = (s.setItem x v).item y := by simp only [State.item, h]
  rw [ht]
  split
  next e => subst e; exact State.item_setItem_self ..
  next e => exact State.item_setItem_ne _ _ e

theorem SettingsOk.of_config (hs : SettingsOk s) (h : t.config = s.config) : SettingsOk t := by
  have hi (x : Item) : t.item x = s.item x := by simp only [State.item, h]
  exact ⟨fun x => hi x ▸ hs.range x, by rw [hi, hi]; exact hs.speeds, by rw [hi, hi]; exact hs.loadings⟩

theorem SettingsOk.store (hs : SettingsOk s) {x : Item} {v : Nat}
    (h : t.config = (s.setItem x (s.configValue x v)).config) : SettingsOk t := by
  have hi := item_of_config h
  have hmax := (hs.range .vMax).1
  have hhold := (hs.range .lHold).1
  have hspeeds := hs.speeds
  have hloadings := hs.loadings
  simp only [Item.range] at hmax hhold
  refine ⟨fun y => ?_, ?_, ?_⟩
  · rw [hi]
    split
    next e => subst e; exact configValue_range hs ..
    next => exact hs.range y
  · rw [hi, hi]
    by_cases h1 : x = .vMin
    · subst h1; simp only [State.configValue, State.pairClamp, if_true, reduceCtorEq, if_false]; omega
    by_cases h2 : x = .vMax
    · subst h2; simp only [State.configValue, State.pairClamp, if_true, reduceCtorEq, if_false]; omega
    rw [if_neg (Ne.symm h1), if_neg (Ne.symm h2)]
    exact hspeeds
  · rw [hi, hi]
    by_cases h1 : x = .lResume
    · subst h1; simp only [State.configValue, State.pairClamp, if_true, reduceCtorEq, if_false]; omega
    by_cases h2 : x = .lHold
    · subst h2; simp only [State.configValue, State.pairClamp, if_true, reduceCtorEq, if_false]; omega
    rw [if_neg (Ne.symm h1), if_neg (Ne.symm h2)]
    exact hloadings

theorem LightDeed.config_eq (h : LightDeed s t) : t.config = s.config := (congrArg State.config h.lightMove.rest :)

theorem LightDeed.types_eq (h : LightDeed s t) : t.types = s.types := (congrArg State.types h.lightMove.rest :)

theorem halts_config_types (h : Halts s t) : t.config = s.config ∧ t.types = s.types := by
  induction h with
  | refl => exact ⟨rfl, rfl⟩
  | @abort t c _ ih =>
    have hm : LightMove (fun _ => True) t (t.abortRun c) := .abortRun fun _ _ _ => trivial
    exact ⟨(congrArg State.config hm.rest :).trans ih.1, (congrArg State.types hm.rest :).trans ih.2⟩
  | idle c _ ih => exact ih

theorem PlateDeed.config_types (h : PlateDeed s t) : t.config = s.config ∧ t.types = s.types := by
  rcases h.plant_cases with ⟨u, hu, he⟩ | ⟨l, -, he⟩ | ⟨e, -, -, he⟩ | ⟨i, -, he⟩
  · obtain ⟨hc, ht⟩ := halts_config_types hu
    exact ⟨(congrArg State.config he :).trans hc, (congrArg State.types he :).trans ht⟩
  · exact ⟨(congrArg State.config he :), (congrArg State.types he :)⟩
  · exact ⟨(congrArg State.config he :), (congrArg State.types he :)⟩
  · have hb : ((s.leaveTransit i).book i).config = s.config ∧ ((s.leaveTransit i).book i).types = s.types := by
      unfold State.book
      split <;> exact ⟨rfl, rfl⟩
    exact ⟨(congrArg State.config he :).trans hb.1, (congrArg State.types he :).trans hb.2⟩

theorem Deed.settingsOk (h : Deed s t) (hs : SettingsOk s) : SettingsOk t := by
  cases h with
  | store h =>
    rcases h.plant_eq.2 with hc | ⟨x, v, hc⟩
    · exact hs.of_config hc
    · exact hs.store hc
  | plate h => exact hs.of_config h.config_types.1
  | light h => exact hs.of_config h.config_eq

/-! ### The types (R27 to R33) -/

theorem pairwise_of_isChain (f : CurvePoint → Nat) {l : List CurvePoint} (h : l.IsChain fun a b => f a < f b) :
    l.Pairwise fun a b => f a < f b := by
  have : Trans (fun a b : CurvePoint => f a < f b) (fun a b => f a < f b) (fun a b => f a < f b) := ⟨lt_trans⟩
  exact h.pairwise

theorem climbs_pairwise {l : List CurvePoint} (h : climbs l = true) :
    l.Pairwise (fun a b => a.dose < b.dose) ∧ l.Pairwise (fun a b => a.floor < b.floor) := by
  have chain : l.IsChain (fun a b => a.dose < b.dose) ∧ l.IsChain (fun a b => a.floor < b.floor) := by
    induction l with
    | nil => exact ⟨.nil, .nil⟩
    | cons a l ih =>
      cases l with
      | nil => exact ⟨.singleton a, .singleton a⟩
      | cons b rest =>
        have h : (a.dose < b.dose ∧ a.floor < b.floor) ∧ climbs (b :: rest) = true := by simpa [climbs] using h
        exact ⟨.cons_cons h.1.1 (ih h.2).1, .cons_cons h.1.2 (ih h.2).2⟩
  exact ⟨pairwise_of_isChain CurvePoint.dose chain.1, pairwise_of_isChain CurvePoint.floor chain.2⟩

theorem typeOk_stored {image : TypeImage} (hth : thicknessOk image.thickness.toNat = true)
    (hc : curveOk image.thickness.toNat image.curve = true) : TypeOk image.unclamped.clamped := by
  have hth : 76 ≤ image.thickness.toNat ∧ image.thickness.toNat ≤ 700 := by simpa [thicknessOk] using hth
  obtain ⟨hpts, hclimb⟩ := Bool.and_eq_true_iff.mp hc
  have hpts : ∀ pt ∈ image.curve.toList, (1 ≤ pt.dose ∧ pt.dose ≤ 65535) ∧ pt.floor < image.thickness.toNat := by
    simpa only [List.all_eq_true, Bool.and_eq_true, decide_eq_true_eq] using hpts
  obtain ⟨hdose, hfloor⟩ := climbs_pairwise hclimb
  exact ⟨hth, ⟨hdose, fun pt h => (hpts pt h).1⟩, ⟨hfloor, fun pt h => (hpts pt h).2⟩,
    clampTo_range (by decide) _, clampTo_range (by decide) _, clampTo_range (by decide) _, clampTo_range (by decide) _,
    (clampTo_range (lo := 0) (hi := 100) (by decide) _).2, clampTo_range (by decide) _,
    (clampTo_range (lo := 0) (hi := 480) (by decide) _).2, (clampTo_range (lo := 0) (hi := 100) (by decide) _).2,
    clampTo_range (by decide) _, clampTo_range (by decide) _, clampTo_range (by decide) _, clampTo_range (by decide) _⟩

/-- A store that changes a type record clears or writes one that no plate uses. -/
theorem StoreDeed.types_cases (h : StoreDeed s t) :
    t.types = s.types ∨ ∃ k r, t.types = (s.setType k r).types ∧ s.typeInUse k = false
      ∧ (r = TypeRec.cleared ∨ (r.valid = true ∧ TypeOk r)) := by
  cases h with
  | clearType k hk => exact .inr ⟨k, _, rfl, hk, .inl rfl⟩
  | storeType k image hk hth hc => exact .inr ⟨k, _, rfl, hk, .inr ⟨rfl, typeOk_stored hth hc⟩⟩
  | setMass m _ => exact .inl (congrArg State.types (plant_evaluateGate (s.setMass m)) :)
  | storeItem x v =>
    unfold State.storeItem State.itemChanged
    split
    · exact .inl rfl
    · split
      · exact .inl (congrArg State.types (plant_evaluateGate (s.setItem x (s.configValue x v))) :)
      · exact .inl rfl
  | _ => exact .inl rfl

theorem TypesOk.of_types (hs : TypesOk s) (h : t.types = s.types) : TypesOk t := fun k => by
  rw [show t.typeRec k = s.typeRec k by simp only [State.typeRec, h]]
  exact hs k

theorem Deed.typesOk (h : Deed s t) (hs : TypesOk s) : TypesOk t := by
  cases h with
  | plate h => exact hs.of_types h.config_types.2
  | light h => exact hs.of_types h.types_eq
  | store h =>
    rcases h.types_cases with he | ⟨k, r, he, -, hr⟩
    · exact hs.of_types he
    · refine TypesOk.of_types (s := s.setType k r) (fun j => ?_) he
      by_cases hj : j = k
      · subst hj
        rw [State.typeRec_setType_self]
        rcases hr with rfl | ⟨hv, hr⟩
        · rfl
        · rw [if_pos hv]; exact hr
      · rw [State.typeRec_setType_ne _ _ hj]; exact hs j

/-! ### The doses (R4) -/

theorem Deed.dosesOk (h : Deed s t) (hs : DosesOk s) : DosesOk t := fun i => by
  rcases h.plate_cases i with hl | ⟨-, he⟩ | ⟨-, ix, lot, k, -, -, -, -, -, -, he⟩
  · exact hl.doses (hs i)
  · rw [he]; decide
  · rw [he]; exact ⟨Nat.zero_le _, Nat.zero_le _, Nat.zero_le _, Nat.zero_le _⟩

end

end Sys2Proof.Machine
end

-- ==== Sys2Proof/Proofs/O ====
section
/-! The figures of the plates (1.1.1), of the light (R101), of the banks (R51, R95) and of M (R58, R126); and O56. -/

namespace Sys2Proof.Machine

section
variable {s t : State} {i : Slot}

/-! ### What STAGE_LOT computes -/

theorem le_roundDiv {n d m : Nat} (hd : 0 < d) (h : m * d ≤ n) : m ≤ roundDiv n d := by
  unfold roundDiv
  refine (Nat.le_div_iff_mul_le (by omega)).mpr ?_
  calc m * (2 * d) = 2 * (m * d) := by ring
    _ ≤ 2 * n + d := by omega

/-- A target on the segment between two points lies between their doses (R40). -/
theorem segment_range {a b : CurvePoint} {f : Nat} (hd : a.dose < b.dose) (hf : a.floor < b.floor) (ha : a.floor ≤ f)
    (hb : f ≤ b.floor) :
    a.dose ≤ roundDiv (a.dose * (b.floor - a.floor) + (f - a.floor) * (b.dose - a.dose)) (b.floor - a.floor)
      ∧ roundDiv (a.dose * (b.floor - a.floor) + (f - a.floor) * (b.dose - a.dose)) (b.floor - a.floor) ≤ b.dose := by
  have hpos : 0 < b.floor - a.floor := by omega
  refine ⟨le_roundDiv hpos (Nat.le_add_right ..), roundDiv_le hpos ?_⟩
  calc a.dose * (b.floor - a.floor) + (f - a.floor) * (b.dose - a.dose)
      ≤ a.dose * (b.floor - a.floor) + (b.floor - a.floor) * (b.dose - a.dose) :=
        Nat.add_le_add_left (Nat.mul_le_mul_right _ (by omega)) _
    _ = (a.dose + (b.dose - a.dose)) * (b.floor - a.floor) := by ring
    _ = b.dose * (b.floor - a.floor) := by rw [Nat.add_sub_of_le hd.le]

theorem interpolate_range {f : Nat} {a : CurvePoint} {l : List CurvePoint}
    (hd : (a :: l).Pairwise fun a b => a.dose < b.dose) (hf : (a :: l).Pairwise fun a b => a.floor < b.floor)
    (hr : ∀ pt ∈ a :: l, 1 ≤ pt.dose ∧ pt.dose ≤ 65535) (ha : a.floor ≤ f) :
    1 ≤ interpolate f (a :: l) ∧ interpolate f (a :: l) ≤ 65535 := by
  induction l generalizing a with
  | nil => exact hr a (by simp)
  | cons b rest ih =>
    obtain ⟨hda, hdl⟩ := List.pairwise_cons.mp hd
    obtain ⟨hfa, hfl⟩ := List.pairwise_cons.mp hf
    unfold interpolate
    split
    next hb =>
      obtain ⟨h1, h2⟩ := segment_range (hda b (by simp)) (hfa b (by simp)) ha hb
      exact ⟨(hr a (by simp)).1.trans h1, h2.trans (hr b (by simp)).2⟩
    next hb => exact ih hdl hfl (fun pt hpt => hr pt (List.mem_cons_of_mem _ hpt)) (by omega)

theorem curve_toList (v : Vector CurvePoint 6) : ∃ l, v.toList = v[0] :: l := by
  rcases v with ⟨⟨l⟩, h⟩
  cases l with
  | nil => simp at h
  | cons a l => exact ⟨l, rfl⟩

theorem backTarget_range {r : TypeRec} (h : TypeOk r) (f : Nat) :
    1 ≤ backTarget r.curve f ∧ backTarget r.curve f ≤ 65535 := by
  have hmem (k : Nat) (hk : k < 6) : r.curve[k] ∈ r.curve.toList := Vector.mem_toList_iff.mpr (Vector.getElem_mem hk)
  unfold backTarget
  split
  · exact h.doses.2 _ (hmem 0 (by decide))
  next hlow =>
    split
    · exact h.doses.2 _ (hmem 5 (by decide))
    · have hlow : r.curve[0].floor ≤ f := by simpa [floorLow] using hlow
      obtain ⟨l, hl⟩ := curve_toList r.curve
      obtain ⟨hd, hr⟩ := h.doses
      have hf := h.floors.1
      rw [hl] at hd hf hr ⊢
      exact interpolate_range hd hf hr hlow

/-- The largest plate's mass is 1,048,500 tenths of a gram (R57). -/
theorem removedMass_le {w l n r d : Nat} (hw : w ≤ 3000) (hl : l ≤ 2500) (hn : n ≤ 100) (hr : r ≤ 699) (hd : d ≤ 2000) :
    removedMass w l n r d ≤ 1048500 := by
  refine roundDiv_le (by decide) ?_
  have harea : plateArea w l ≤ 75000 := Nat.div_le_of_le_mul (by nlinarith [Nat.mul_le_mul hw hl])
  calc plateArea w l * n * (r * 10) * d ≤ 75000 * 100 * (699 * 10) * 2000 :=
        Nat.mul_le_mul (Nat.mul_le_mul (Nat.mul_le_mul harea hn) (by omega)) hd
    _ ≤ 1048500 * 100000000 := by decide

theorem clampTrim_range (v : Int) : -20 ≤ clampTrim v ∧ clampTrim v ≤ 20 := by
  unfold clampTrim
  split
  · decide
  · split
    · decide
    · omega

theorem clampNonimage_le (n : Nat) : clampNonimage n ≤ 100 := by
  unfold clampNonimage
  split <;> omega

/-! ### The plates (1.1.1) -/

theorem PlateOk.of_cleared (h : t.plate i = Plate.cleared) : PlateOk t i := by
  constructor <;> rw [h] <;> simp [Plate.cleared, PlateState.usesType, PlateState.isWaiting, PlateState.isActive]

/-- A copy of an accepted lot (R39 to R43, R57, R67, R68). -/
theorem PlateOk.of_staged (hs : SettingsOk s) (ht : TypesOk s) {ix : Fin 16} {lot : LotImage} {k : Nat} (hk : k ≤ 15)
    (hv : (s.typeRec ix).valid = true) (hr : 1 ≤ lot.relief.toNat) (hr' : lot.relief.toNat < (s.typeRec ix).thickness)
    (hf : s.lotFits lot = true) (htypes : t.types = s.types) (hp : t.plate i = stagedPlate ix (s.typeRec ix) lot k) :
    PlateOk t i := by
  have htype : TypeOk (s.typeRec ix) := by have := ht ix; rwa [if_pos hv] at this
  obtain ⟨hb1, hb2⟩ := backTarget_range htype ((s.typeRec ix).thickness - lot.relief.toNat)
  have hface := clampTo_range (show 1 ≤ 65535 by decide)
    (faceDoseTrimmed (s.typeRec ix).faceDose (clampTrim lot.trim.toInt))
  have hthick := htype.thickness
  have hlane := (hs.range .laneWidth).2
  have hbed := (hs.range .bedLength).2
  simp only [Item.range] at hlane hbed
  obtain ⟨⟨⟨hw1, hw2⟩, hl1⟩, hl2⟩ : ((1 ≤ lot.width.toNat ∧ lot.width.toNat ≤ 2 * s.item .laneWidth)
      ∧ 1 ≤ lot.length.toNat) ∧ lot.length.toNat ≤ s.item .bedLength := by
    simpa only [State.lotFits, Bool.and_eq_true, decide_eq_true_eq] using hf
  constructor <;> rw [hp]
  · exact ⟨Nat.le_of_lt_succ lot.lot.isLt, hk⟩
  · exact ⟨by change lot.width.toNat ≤ 3000; omega, by change lot.length.toNat ≤ 2500; omega⟩
  · exact clampNonimage_le _
  · exact clampTrim_range _
  · exact ⟨by change lot.relief.toNat ≤ 699; omega, by change (s.typeRec ix).thickness - lot.relief.toNat ≤ 699; omega⟩
  · exact ⟨hb2, hface.2⟩
  · exact removedMass_le (by omega) (by omega) (clampNonimage_le _) (by omega) htype.density.2
  · intro v hv; cases hv
  · intro _
    exact ⟨hw1, hl1, hr, by change 1 ≤ (s.typeRec ix).thickness - lot.relief.toNat; omega, hb1, hface.1⟩
  · intro _
    rw [State.plateType, hp, State.typeRec, htypes]
    exact hv

/-- A later record of a plate that has moved onward. -/
theorem PlateOk.of_later (hset : SettingsOk s) (h : PlateOk s i)
    (hl : Plate.Later (s.item .vMin) (s.item .vMax) (s.plate i) (t.plate i))
    (ho : (t.plate i).state = (s.plate i).state ∨ (s.plate i).state.usesType = true)
    (htype : (s.plate i).state.usesType = true → (s.plateType i).valid = true →
      (t.typeRec (s.plate i).typeIx).valid = true) : PlateOk t i := by
  have hlab := hl.label
  have field {α : Type} (f : Plate → α) (hf : ∀ p, f p = f p.label := by intro; rfl) : f (t.plate i) = f (s.plate i) := by
    rw [hf (t.plate i), hlab, ← hf]
  have hfree : (t.plate i).state ≠ .free → (s.plate i).state ≠ .free := fun hne e => by
    rcases ho with ho | ho
    · exact hne (ho.trans e)
    · rw [e] at ho; cases ho
  have huses : (t.plate i).state.usesType = true → (s.plate i).state.usesType = true := fun hu =>
    ho.elim (fun ho => ho ▸ hu) id
  constructor
  · rw [field Plate.lot, field Plate.copy]; exact h.lot
  · rw [field Plate.width, field Plate.length]; exact h.size
  · rw [field Plate.nonimage]; exact h.nonimage
  · rw [field Plate.trim]; exact h.trim
  · rw [field Plate.relief, field Plate.floor]; exact h.depths
  · rw [field Plate.backTarget, field Plate.faceTarget]; exact h.targets
  · rw [field Plate.mass]; exact h.mass
  · intro v hv
    rcases hl.speed v hv with hv | ⟨raw, rfl⟩
    · exact h.speed v hv
    · have hc := clampTo_range hset.speeds.le raw
      have h1 := (hset.range .vMin).1
      have h2 := (hset.range .vMax).2
      exact ⟨le_trans h1 hc.1, le_trans hc.2 h2⟩
  · rw [field Plate.width, field Plate.length, field Plate.relief, field Plate.floor, field Plate.backTarget,
      field Plate.faceTarget]
    exact fun hne => h.occupied (hfree hne)
  · intro hu
    rw [State.plateType, field Plate.typeIx]
    exact htype (huses hu) (h.typed (huses hu))

/-- STAGE_LOT, PURGE, or a deed that moves every plate onward and leaves a later record of it. -/
theorem PlateDeed.kinds (hd : PlateDeed s t) (hl : Located s) :
    (Later (s.item .vMin) (s.item .vMax) s t ∧ Onward s.wetTime s.owedTime s t)
      ∨ (∃ i, ((s.plate i).state = .done ∨ (s.plate i).state = .scrapped) ∧ t = s.modPlate i fun _ => Plate.cleared)
      ∨ ∃ ix lot n, n ≤ 16 ∧ (s.typeRec ix).valid = true ∧ 1 ≤ lot.relief.toNat
        ∧ lot.relief.toNat < (s.typeRec ix).thickness ∧ s.lotFits lot = true
        ∧ t = s.stage (stagedPlate ix (s.typeRec ix) lot) (s.freeSlots.take n) := by
  rcases hd.later_cases with h | h
  · exact (hd.onward hl).imp_left fun ho => ⟨h, ho⟩
  · exact .inr h

theorem PlateOk.of_unmoved (h : PlateOk s i) (hp : t.plate i = s.plate i) (ht : t.types = s.types) : PlateOk t i := by
  have hty : t.plateType i = s.plateType i := by simp only [State.plateType, State.typeRec, ht, hp]
  obtain ⟨h1, h2, h3, h4, h5, h6, h7, h8, h9, h10⟩ := h
  rw [← hp] at h1 h2 h3 h4 h5 h6 h7 h8 h9 h10
  rw [← hty] at h10
  exact ⟨h1, h2, h3, h4, h5, h6, h7, h8, h9, h10⟩

theorem not_usesType_of_typeInUse {k : Fin 16} (h : s.typeInUse k = false) (hu : (s.plate i).state.usesType = true) :
    (s.plate i).typeIx ≠ k := by
  intro e
  have hmem : s.plate i ∈ s.plates.toList := Vector.mem_toList_iff.mpr (Vector.getElem_mem ..)
  have : s.typeInUse k = true := List.any_eq_true.mpr ⟨_, hmem, by simp [hu, e]⟩
  rw [h] at this; cases this

theorem StoreDeed.plates_eq (h : StoreDeed s t) : t.plates = s.plates := by
  cases h with
  | setMass m _ => exact (congrArg State.plates (places_evaluateGate (s.setMass m)) :)
  | storeItem x v => exact (congrArg State.plates (places_storeItem s x _) :)
  | _ => rfl

theorem Deed.platesOk (h : Deed s t) (hset : SettingsOk s) (ht : TypesOk s) (hl : Located s) (hs : PlatesOk s) :
    PlatesOk t := fun i => by
  cases h with
  | light h =>
    refine PlateOk.of_later hset (hs i) ((h.lightMove.plates i).later ..) (.inl (h.lightMove.plates i).state) fun _ hv => ?_
    rw [State.typeRec, h.types_eq]; exact hv
  | store h =>
    have hp : t.plate i = s.plate i := by simp only [State.plate, h.plates_eq]
    rcases h.types_cases with he | ⟨k, r, he, hk, -⟩
    · exact .of_unmoved (hs i) hp he
    · refine PlateOk.of_later hset (hs i) (hp ▸ .refl _) (.inl (by rw [hp])) fun hu hv => ?_
      rw [State.typeRec, he]
      exact (congrArg TypeRec.valid (State.typeRec_setType_ne s r (not_usesType_of_typeInUse hk hu))).trans hv
  | plate h =>
    rcases h.kinds hl with ⟨hlater, hon⟩ | ⟨j, -, rfl⟩ | ⟨ix, lot, n, hn, hv, hr, hr', hf, rfl⟩
    · refine PlateOk.of_later hset (hs i) (hlater.plates i) (hon.plates i).state fun _ hv => ?_
      rw [State.typeRec, h.config_types.2]; exact hv
    · by_cases hj : i = j
      · subst hj; exact .of_cleared (State.plate_modPlate_self ..)
      · exact .of_unmoved (hs i) (State.plate_modPlate_ne _ _ hj) rfl
    · have hnd : (s.freeSlots.take n).Nodup := (freeSlots_nodup s).sublist (List.take_sublist ..)
      have hp := stage_plate (s := s) (mk := stagedPlate ix (s.typeRec ix) lot) hnd i
      split at hp
      next hmem =>
        have hlen := List.idxOf_lt_length_of_mem hmem
        rw [List.length_take] at hlen
        exact .of_staged hset ht (by omega) hv hr hr' hf h.config_types.2 hp
      · exact .of_unmoved (hs i) hp h.config_types.2

/-! ### The light (R101) -/

/-- The ranges of R101 and R105. -/
def lightBounds : Bounds where
  need n := 1 ≤ n ∧ n ≤ 6553500000
  limit l := 1000 ≤ l ∧ l ≤ 65535000
  interval ts := 10 ≤ ts ∧ ts ≤ 160
  bank _ := True

theorem lightBounds_lawful : lightBounds.Lawful := by
  constructor <;> intros <;> trivial

theorem intervalNow_range (h : SettingsOk s) : 10 ≤ s.intervalNow ∧ s.intervalNow ≤ 160 := by
  have := h.range .sampleDiv
  simp only [Item.range] at this
  unfold State.intervalNow
  omega

theorem LightInRange.figures (h : LightInRange s) (hs : SettingsOk s) : Figures lightBounds s where
  channels c := ⟨(h.channels c).need, (h.channels c).limit, (h.channels c).interval, (h.channels c).lastGood,
    (h.channels c).accumulator⟩
  due := h.due
  busy := h.busy
  banks _ := trivial
  now := intervalNow_range hs

theorem Figures.lightInRange (h : Figures lightBounds s) : LightInRange s where
  channels c := ⟨(h.channels c).need, (h.channels c).limit, (h.channels c).interval, (h.channels c).lastGood,
    (h.channels c).accumulator⟩
  due := h.due
  busy := h.busy

theorem LightInRange.of_eq (h : LightInRange s) (hc : t.chans = s.chans) (hl : t.link = s.link) : LightInRange t := by
  refine ⟨fun c => ?_, hl ▸ h.due, hl ▸ h.busy⟩
  rw [show t.chan c = s.chan c by simp only [State.chan, hc]]
  exact h.channels c

theorem State.startable (ht : TypesOk s) (hs : PlateOk s i) (hu : (s.plate i).state.usesType = true) :
    s.Startable lightBounds i := by
  have htype : TypeOk (s.plateType i) := by
    have hv : (s.typeRec (s.plate i).typeIx).valid = true := hs.typed hu
    have := ht (s.plate i).typeIx
    rwa [if_pos hv] at this
  have need {d n : Nat} (hd : d ≤ 65535) (h1 : 1 ≤ n) (hn : n ≤ d * 100000) : lightBounds.need n := ⟨h1, by omega⟩
  have limit {m : Nat} (hm : 1 ≤ m ∧ m ≤ 65535) : lightBounds.limit (m * 1000) :=
    ⟨by omega, by omega⟩
  exact ⟨fun _ => need hs.targets.1, fun _ => need hs.targets.2, fun _ => need htype.detackDose.2,
    fun _ => need htype.postDose.2, limit htype.backMaxS, limit htype.faceMaxS, limit htype.detackMaxS,
    limit htype.postMaxS⟩

theorem Deed.lightInRange (h : Deed s t) (hset : SettingsOk s) (ht : TypesOk s) (hl : Located s) (hs : PlatesOk s)
    (hr : LightInRange s) : LightInRange t := by
  have hfig := hr.figures hset
  have bed {i : Slot} (hi : i ∈ s.frame.plates) : s.Startable lightBounds i :=
    State.startable ht (hs i) (by rw [(hl.onFrame i).2.mpr ((laneOf_isSome s i).mpr hi)]; rfl)
  cases h with
  | store h => exact hr.of_eq h.plant_eq.1.1 h.plant_eq.1.2.1
  | plate h => exact (h.figures hfig).lightInRange
  | light h =>
    refine (h.figures lightBounds_lawful hfig (fun e => ?_) (fun i hi => bed ((s.frame.mem_plates i).mpr (.inl hi)))
      (fun i hi => bed ((s.frame.mem_plates i).mpr (.inr hi))) fun i hi => ?_).lightInRange
    · have := (hset.range e.warmItem).2
      cases e <;> exact this
    · exact State.startable ht (hs i) (by rw [(hl.finishing i).mpr hi]; rfl)

/-! ### The banks (R51, R95) -/

/-- The ranges of a bank's record alone. -/
def bankBounds : Bounds where
  need _ := True
  limit _ := True
  interval _ := True
  bank := BankInRange

theorem bankBounds_lawful : bankBounds.Lawful where
  learn k r h h1 h2 := ⟨by rintro _ ⟨⟩; exact ⟨h1, h2⟩, h.warm⟩
  ready k h := ⟨h.ref, by simp⟩
  off k h := ⟨h.ref, by simp⟩
  warming k n h h1 h2 := ⟨h.ref, by simp [h1, h2]⟩
  tick k h hs hw := by
    have hwarm := h.warm
    rw [if_pos hs] at hwarm
    exact ⟨h.ref, by rw [if_pos hs]; dsimp only; omega⟩

theorem Deed.banksInRange (h : Deed s t) (hset : SettingsOk s) (hr : LightInRange s) (hs : BanksInRange s) :
    BanksInRange t := by
  have hfig : Figures bankBounds s :=
    ⟨fun c => ⟨fun _ _ => trivial, fun _ _ => trivial, fun _ _ => trivial, (hr.channels c).lastGood,
      (hr.channels c).accumulator⟩, fun _ _ _ => trivial, fun _ _ => trivial, hs, trivial⟩
  have start (i : Slot) : s.Startable bankBounds i :=
    ⟨fun _ _ _ => trivial, fun _ _ _ => trivial, fun _ _ _ => trivial, fun _ _ _ => trivial, trivial, trivial, trivial,
      trivial⟩
  cases h with
  | store h => exact fun k => by rw [State.bank, h.plant_eq.1.2.2]; exact hs k
  | plate h => exact (h.figures hfig).banks
  | light h =>
    refine (h.figures bankBounds_lawful hfig (fun e => ?_) (fun i _ => start i) (fun i _ => start i)
      fun i _ => start i).banks
    have := (hset.range e.warmItem).2
    cases e <;> exact this

/-! ### M (R58, R126) -/

theorem MassOk.of_eq (h : MassOk s) (hm : t.solvent.mass = s.solvent.mass) (hl : t.transit.length = s.transit.length) :
    MassOk t := by
  rw [MassOk, hm, hl]; exact h

theorem MassOk.of_plant (h : MassOk s) (hp : t.plant = s.plant) : MassOk t :=
  h.of_eq (congrArg (fun u => u.solvent.mass) hp :) (congrArg (fun u => u.transit.length) hp :)

theorem halts_mass_transit (h : Halts s t) : t.solvent.mass = s.solvent.mass ∧ t.transit = s.transit := by
  induction h with
  | refl => exact ⟨rfl, rfl⟩
  | @abort t c _ ih =>
    have hm : LightMove (fun _ => True) t (t.abortRun c) := .abortRun fun _ _ _ => trivial
    exact ⟨(congrArg (fun u => u.solvent.mass) hm.rest :).trans ih.1, (congrArg State.transit hm.rest :).trans ih.2⟩
  | idle c _ ih => exact ih

/-- A plate out of the transit list makes room for its mass in M (R58). -/
theorem MassOk.book (h : MassOk s) (hp : (s.plate i).mass ≤ 1048500) (hi : s.inTransit i = true) :
    MassOk ((s.leaveTransit i).book i) := by
  have hlen : (s.transit.filter fun e => e.slot != i).length < s.transit.length := by
    obtain ⟨e, he, hei⟩ := List.any_eq_true.mp hi
    exact List.length_filter_lt_length_iff_exists.mpr ⟨e, he, by simpa using hei⟩
  have hmass (m : Nat) (hm : m ∈ s.solvent.mass) (n : Nat) (hn : n ≤ m + 1048500) :
      n ≤ 4294967295 ∧ n + 1048500 * (s.transit.filter fun e => e.slot != i).length ≤ 134215500 := by
    have := h m hm
    omega
  unfold State.book
  split
  · exact fun m hm => hmass m hm m (Nat.le_add_right ..)
  · intro n hn
    obtain ⟨m, hm, rfl⟩ := Option.map_eq_some_iff.mp hn
    exact hmass m hm _ (Nat.add_le_add_left hp m)

theorem MassOk.setMass (h : MassOk s) (hset : SettingsOk s) (hsol : SolventOk s) {m : Nat}
    (hm : m ≤ 65535 * s.item .tankL ∨ ∃ n ∈ s.solvent.mass, m ≤ n) : MassOk (s.setMass m) := by
  intro k hk
  cases hk
  have htank := (hset.range .tankL).2
  simp only [Item.range] at htank
  have hroom := hsol.room
  change m ≤ 4294967295 ∧ m + 1048500 * s.transit.length ≤ 134215500
  rcases hm with hm | ⟨n, hn, hmn⟩
  · omega
  · have := h n hn
    omega

/-- A claim finds the gate open, and so M below the largest loading (R127, R129). -/
theorem MassOk.claim (hset : SettingsOk s) (hsol : SolventOk s) (hg : s.solvent.gate = .opened)
    (hl : s.transit.length < 3) (e : TransitEntry) : MassOk { s with transit := s.transit ++ [e] } := by
  intro m hm
  have hload := hsol.opened hg m hm
  have htank := hset.range .tankL
  have hhold := (hset.range .lHold).2
  simp only [Item.range] at htank hhold
  have hlt : m < 1000 * 2000 := calc
    m < s.item .lHold * s.item .tankL := (Nat.div_lt_iff_lt_mul (by omega)).mp hload
    _ ≤ 1000 * 2000 := Nat.mul_le_mul hhold htank.2
  change m ≤ 4294967295 ∧ m + 1048500 * (s.transit ++ [e]).length ≤ 134215500
  rw [List.length_append, List.length_singleton]
  omega

theorem Deed.massOk (h : Deed s t) (hset : SettingsOk s) (hp : PlatesOk s) (hsol : SolventOk s) (hs : MassOk s) :
    MassOk t := by
  cases h with
  | light h =>
    exact hs.of_eq (congrArg (fun u => u.solvent.mass) h.lightMove.rest :)
      (congrArg (fun u => u.transit.length) h.lightMove.rest :)
  | plate h =>
    rcases h.plant_cases with ⟨u, hu, he⟩ | ⟨l, hl, he⟩ | ⟨e, hg, hlen, he⟩ | ⟨i, hi, he⟩
    · obtain ⟨hm, ht⟩ := halts_mass_transit hu
      exact (hs.of_eq hm (by rw [ht])).of_plant he
    · exact (hs.of_eq rfl hl : MassOk { s with transit := l }).of_plant he
    · exact (MassOk.claim hset hsol hg hlen e).of_plant he
    · exact (hs.book (hp i).mass hi).of_plant he
  | store h =>
    cases h with
    | setMass m hm => exact (hs.setMass hset hsol hm).of_plant (plant_evaluateGate _)
    | overdueSecond i => exact hs.of_eq rfl (List.length_map ..)
    | storeItem x v =>
      unfold State.storeItem State.itemChanged
      split
      · exact hs
      · have hi : MassOk (s.setItem x (s.configValue x v)) := hs.of_eq rfl rfl
        split
        · exact hi.of_plant (plant_evaluateGate _)
        · exact hi
    | _ => exact hs.of_eq rfl rfl

/-! ### The statement -/

theorem SettingsOk.of_line (h : s.line = t.line) (hs : SettingsOk s) : SettingsOk t :=
  hs.of_config (congrArg State.config h.symm :)

theorem TypesOk.of_line (h : s.line = t.line) (hs : TypesOk s) : TypesOk t := hs.of_types (congrArg State.types h.symm :)

theorem DosesOk.of_line (h : s.line = t.line) (hs : DosesOk s) : DosesOk t := fun i => by
  rw [← plate_of_line h]; exact hs i

theorem PlatesOk.of_line (h : s.line = t.line) (hs : PlatesOk s) : PlatesOk t := fun i =>
  .of_unmoved (hs i) (plate_of_line h i).symm (congrArg State.types h.symm :)

theorem LightInRange.of_line (h : s.line = t.line) (hs : LightInRange s) : LightInRange t :=
  hs.of_eq (congrArg State.chans h.symm :) (congrArg State.link h.symm :)

theorem BanksInRange.of_line (h : s.line = t.line) (hs : BanksInRange s) : BanksInRange t := fun b => by
  rw [State.bank, show t.banks = s.banks from (congrArg State.banks h.symm :)]; exact hs b

theorem MassOk.of_line (h : s.line = t.line) (hs : MassOk s) : MassOk t :=
  hs.of_eq (congrArg (fun u => u.solvent.mass) h.symm :) (congrArg (fun u => u.transit.length) h.symm :)

theorem SolventOk.of_line (h : s.line = t.line) (hs : SolventOk s) : SolventOk t := by
  have hline : SolventOk t.line := h ▸ (⟨hs.unknown, hs.unknownQuiet, hs.warn, hs.opened, hs.spent, hs.room,
    hs.timers⟩ : SolventOk s.line)
  exact ⟨hline.unknown, hline.unknownQuiet, hline.warn, hline.opened, hline.spent, hline.room, hline.timers⟩

/-- Settles O56, invariant by invariant, deed by deed. -/
theorem everyStepKeepsTheFiguresInRange : Obligations.EveryStepKeepsTheFiguresInRange := by
  intro s t h
  refine ⟨fun hs => ?_, fun ht => ?_, fun hd => ?_, fun hs ht hl hp => ⟨?_, fun hr => ?_, fun hsol hm => ?_⟩,
    fun hs hr hb => ?_⟩
  · exact step_keeps SettingsOk.of_line settingsOk_reset (fun he hd => hd.settingsOk (hs.of_line he.symm)) h
  · exact step_keeps TypesOk.of_line typesOk_reset (fun he hd => hd.typesOk (ht.of_line he.symm)) h
  · exact step_keeps DosesOk.of_line dosesOk_reset (fun he hd' => hd'.dosesOk (hd.of_line he.symm)) h
  · exact step_keeps PlatesOk.of_line platesOk_reset (fun he hd => hd.platesOk (hs.of_line he.symm) (ht.of_line he.symm)
      (hl.of_line he.symm) (hp.of_line he.symm)) h
  · exact step_keeps LightInRange.of_line lightInRange_reset (fun he hd => hd.lightInRange (hs.of_line he.symm)
      (ht.of_line he.symm) (hl.of_line he.symm) (hp.of_line he.symm) (hr.of_line he.symm)) h
  · exact step_keeps MassOk.of_line massOk_reset (fun he hd => hd.massOk (hs.of_line he.symm) (hp.of_line he.symm)
      (hsol.of_line he.symm) (hm.of_line he.symm)) h
  · exact step_keeps BanksInRange.of_line banksInRange_reset (fun he hd => hd.banksInRange (hs.of_line he.symm)
      (hr.of_line he.symm) (hb.of_line he.symm)) h

end

end Sys2Proof.Machine
end

-- ==== Sys2Proof/Proofs/P ====
section
/-! HOLD, RELEASE, SCRAP and PURGE (R8, R9, R13 to R16): what each does in every state of a plate. -/

namespace Sys2Proof.Machine

section
variable {s : State} {i : Slot}

/-- A waiting plate leaves the list that it waits in. -/
theorem State.leaveOwnList_of_split {l : WaitList} {before after : List Slot} (hw : (s.plate i).state.waitList = some l)
    (h : s.waitList l = before ++ i :: after) (hb : i ∉ before) (ha : i ∉ after) :
    s.leaveOwnList i = s.setWaitList l (before ++ after) := by
  simp only [State.leaveOwnList, hw, State.leaveList_of_split h hb ha]

/-! ### HOLD -/

theorem holdPlate_of_waiting {l : WaitList} {from_ : HeldFrom} {before after : List Slot}
    (hf : (s.plate i).state.asHeldFrom = some from_) (hw : (s.plate i).state.waitList = some l)
    (h : s.waitList l = before ++ i :: after) (hb : i ∉ before) (ha : i ∉ after) :
    holdPlate s i = ((s.setWaitList l (before ++ after)).modPlate i fun p => p.heldFor .operator from_, Reply.just .ok) := by
  simp only [holdPlate, hf, State.leaveOwnList_of_split hw h hb ha]

theorem holdPlate_of_active (h : (s.plate i).state ∈ [PlateState.onFrame, .washing, .drying, .finishing]) :
    holdPlate s i = (s.modPlate i fun p => { p with holdPending := true }, Reply.just .ok) := by
  have hst : ∀ st ∈ [PlateState.onFrame, .washing, .drying, .finishing], st.asHeldFrom = none ∧ st.isActive = true := by
    decide
  simp only [holdPlate, hst _ h, if_true]

theorem holdPlate_of_other (h : (s.plate i).state ∈ [PlateState.free, .done, .held, .scrapped]) :
    holdPlate s i = refuse .badState s := by
  have hst : ∀ st ∈ [PlateState.free, .done, .held, .scrapped], st.asHeldFrom = none ∧ st.isActive = false := by decide
  simp only [holdPlate, hst _ h, Bool.false_eq_true, if_false]

/-- Settles O25, by the state of the plate. -/
theorem holdTakesEffect : Obligations.HoldTakesEffect := by
  refine ⟨fun s b hg hb => ?_, fun s b i hg hb => ⟨fun l st from_ before after hmem hs hl hnb hna => ?_,
    fun hs => ?_, fun hs => ?_⟩⟩ <;> rw [exec_hold b hg]
  · rw [viaSlot_of_gt _ _ hb]; rfl
  · rw [viaSlot_of_lt _ _ hb]
    have hst : (s.plate i).state.asHeldFrom = some from_ ∧ (s.plate i).state.waitList = some l := by
      simp only [List.mem_cons, List.not_mem_nil, or_false, Prod.mk.injEq] at hmem
      rw [hs]
      rcases hmem with ⟨rfl, rfl, rfl⟩ | ⟨rfl, rfl, rfl⟩ | ⟨rfl, rfl, rfl⟩ | ⟨rfl, rfl, rfl⟩ <;> exact ⟨rfl, rfl⟩
    rw [holdPlate_of_waiting hst.1 hst.2 hl hnb hna]
    rfl
  · rw [viaSlot_of_lt _ _ hb, holdPlate_of_active hs]; rfl
  · rw [viaSlot_of_lt _ _ hb, holdPlate_of_other hs]; rfl

/-! ### RELEASE -/

theorem releasePlate_of_held {dest : HeldFrom} (hs : (s.plate i).state = .held) (hf : (s.plate i).heldFrom = some dest) :
    releasePlate s i = ((s.modPlate i fun p => p.released dest.state).joinReleased i dest, Reply.just .ok) := by
  simp only [releasePlate, hs, hf]

theorem releasePlate_of_not_held (hs : (s.plate i).state ≠ .held) :
    releasePlate s i = if (s.plate i).holdPending then (s.modPlate i fun p => { p with holdPending := false }, Reply.just .ok)
      else refuse .badState s := by
  unfold releasePlate
  split
  next h _ => exact absurd h hs
  · simp [hs]

/-- Settles O26, by where the plate is held from. -/
theorem releaseSendsThePlateOn : Obligations.ReleaseSendsThePlateOn := by
  refine ⟨fun s b hg hb => ?_, fun s b i hg hb => ⟨fun r n hs hf hc => ?_, fun l st from_ q param hmem hs hf => ?_,
    fun hs hf => ?_, fun hs hp => ?_, fun hs hp => ?_⟩⟩ <;> rw [exec_release b hg]
  · rw [viaSlot_of_gt _ _ hb]; rfl
  · rw [viaSlot_of_lt _ _ hb, releasePlate_of_held hs hf]
    have hq : (s.modPlate i fun p => p.released .staged).atClassTail s.exposureQ i
        = if (s.plate i).rush then r ++ i :: n else r ++ n ++ [i] :=
      (State.atClassTail_modPlate s i i (f := fun p => p.released .staged) (fun _ => rfl) _).trans (hc.atClassTail i)
    rw [← hq]
    rfl
  · rw [viaSlot_of_lt _ _ hb, releasePlate_of_held hs hf]
    simp only [List.mem_cons, List.not_mem_nil, or_false, Prod.mk.injEq] at hmem
    rcases hmem with ⟨rfl, rfl, rfl, rfl, rfl⟩ | ⟨rfl, rfl, rfl, rfl, rfl⟩ | ⟨rfl, rfl, rfl, rfl, rfl⟩ <;> rfl
  · rw [viaSlot_of_lt _ _ hb, releasePlate_of_held hs hf]; rfl
  · rw [viaSlot_of_lt _ _ hb, releasePlate_of_not_held hs, if_pos hp]; rfl
  · rw [viaSlot_of_lt _ _ hb, releasePlate_of_not_held hs, if_neg (by simp [hp])]; rfl

/-! ### SCRAP and PURGE -/

theorem scrapPlate_of_inFlow (h : (s.plate i).state.isWaiting = true ∨ (s.plate i).state = .held) :
    scrapPlate s i = ((s.leaveOwnList i).modPlate i fun p => p.released .scrapped, Reply.just .ok) :=
  if_pos (by simpa using h)

theorem scrapPlate_of_active (h : (s.plate i).state ∈ [PlateState.onFrame, .washing, .drying, .finishing]) :
    scrapPlate s i = refuse .plateActive s := by
  have hst : ∀ st ∈ [PlateState.onFrame, .washing, .drying, .finishing],
      (st.isWaiting || st == .held) = false ∧ st.isActive = true := by decide
  simp only [scrapPlate, hst _ h, Bool.false_eq_true, if_false, if_true]

theorem scrapPlate_of_other (h : (s.plate i).state ∈ [PlateState.free, .done, .scrapped]) :
    scrapPlate s i = refuse .badState s := by
  have hst : ∀ st ∈ [PlateState.free, .done, .scrapped],
      (st.isWaiting || st == .held) = false ∧ st.isActive = false := by decide
  simp only [scrapPlate, hst _ h, Bool.false_eq_true, if_false]

theorem State.referenced_iff (s : State) (i : Slot) : s.referenced i = true ↔ ∃ d, (s.drawer d).slot = some i := by
  unfold State.referenced State.drawer
  simp only [List.any_eq_true, Vector.mem_toList_iff, Vector.mem_iff_getElem, beq_iff_eq]
  constructor
  · rintro ⟨k, ⟨n, hn, rfl⟩, hk⟩
    exact ⟨⟨n, hn⟩, hk⟩
  · rintro ⟨d, hd⟩
    exact ⟨_, ⟨d.val, d.isLt, rfl⟩, hd⟩

theorem purgePlate_of_over (h : (s.plate i).state ∈ [PlateState.done, .scrapped]) :
    purgePlate s i = if s.referenced i then refuse .plateActive s
      else (s.modPlate i fun _ => Plate.cleared, Reply.just .ok) :=
  if_pos (by simpa using h)

theorem purgePlate_of_other (h : (s.plate i).state ∉ [PlateState.done, .scrapped]) :
    purgePlate s i = refuse .badState s :=
  if_neg (by simpa using h)

/-- Settles O27, by the state of the plate. -/
theorem scrapAndPurgeClearTheLine : Obligations.ScrapAndPurgeClearTheLine := by
  refine ⟨fun s b hg hb => ?_, fun s b i hg hb => ⟨fun l st before after hmem hs hl hnb hna => ?_, fun hs => ?_,
    fun hs => ?_, fun hs => ?_⟩, fun s b hg hb => ?_, fun s b i hg hb => ⟨fun hs hd => ?_, fun d hs hd => ?_, fun hs => ?_⟩⟩
  · rw [exec_scrap b hg, viaSlot_of_gt _ _ hb]; rfl
  · have hst : (s.plate i).state.isWaiting = true ∧ (s.plate i).state.waitList = some l := by
      simp only [List.mem_cons, List.not_mem_nil, or_false, Prod.mk.injEq] at hmem
      rw [hs]
      rcases hmem with ⟨rfl, rfl⟩ | ⟨rfl, rfl⟩ | ⟨rfl, rfl⟩ | ⟨rfl, rfl⟩ <;> exact ⟨rfl, rfl⟩
    rw [exec_scrap b hg, viaSlot_of_lt _ _ hb, scrapPlate_of_inFlow (.inl hst.1),
      State.leaveOwnList_of_split hst.2 hl hnb hna]
    rfl
  · have hown : s.leaveOwnList i = s := by rw [State.leaveOwnList, hs]; rfl
    rw [exec_scrap b hg, viaSlot_of_lt _ _ hb, scrapPlate_of_inFlow (.inr hs), hown]
    rfl
  · rw [exec_scrap b hg, viaSlot_of_lt _ _ hb, scrapPlate_of_active hs]; rfl
  · rw [exec_scrap b hg, viaSlot_of_lt _ _ hb, scrapPlate_of_other hs]; rfl
  · rw [exec_purge b hg, viaSlot_of_gt _ _ hb]; rfl
  · have hr : ¬ s.referenced i = true := fun h => by
      obtain ⟨d, hd'⟩ := (s.referenced_iff i).mp h
      exact hd d hd'
    rw [exec_purge b hg, viaSlot_of_lt _ _ hb, purgePlate_of_over hs, if_neg hr]; rfl
  · rw [exec_purge b hg, viaSlot_of_lt _ _ hb, purgePlate_of_over hs, if_pos ((s.referenced_iff i).mpr ⟨d, hd⟩)]; rfl
  · rw [exec_purge b hg, viaSlot_of_lt _ _ hb, purgePlate_of_other hs]; rfl

end

end Sys2Proof.Machine
end

-- ==== Sys2Proof/Proofs/Q ====
section
/-! READ_PLATE (R24, 1.6.1): a reply is a list of numbers, each in its bytes, most significant first. -/

namespace Sys2Proof.Machine

/-! ### Numbers in a reply -/

@[simp] theorem beBytes_length (n v : Nat) : (beBytes n v).length = n := by
  induction n with
  | zero => rfl
  | succ n ih => rw [beBytes, List.length_cons, ih]

theorem beBytes_one (v : Nat) : beBytes 1 v = [byte1 v] := by
  simp [beBytes, byte1]

theorem codeOrFF_eq (o : Option Nat) : codeOrFF o = byte1 (o.getD 255) := by
  cases o <;> rfl

theorem foldl_bytes (n v w : Nat) :
    (beBytes n v).foldl (fun v b => 256 * v + b.toNat) w = 256 ^ n * w + v % 256 ^ n := by
  induction n generalizing w with
  | zero => simp [beBytes, Nat.mod_one]
  | succ n ih =>
    have hmod : v % 256 ^ (n + 1) = 256 ^ n * (v / 256 ^ n % 256) + v % 256 ^ n := by
      rw [pow_succ, Nat.mod_mul, Nat.add_comm]
    rw [beBytes, List.foldl_cons, ih, hmod, BitVec.toNat_ofNat]
    ring

/-- The bytes of a list of numbers, each given with the number of its bytes. -/
def fieldBytes (l : List (Nat × Nat)) : List Byte := l.flatMap fun f => beBytes f.1 f.2

theorem fieldBytes_nil : fieldBytes [] = [] := rfl

theorem fieldBytes_cons (n v : Nat) (l : List (Nat × Nat)) :
    fieldBytes ((n, v) :: l) = beBytes n v ++ fieldBytes l := rfl

theorem fieldBytes_length (l : List (Nat × Nat)) : (fieldBytes l).length = (l.map fun f => f.1).sum := by
  simp [fieldBytes, List.length_flatMap]

/-- Each number of a reply is read back less any excess over what its bytes can hold. -/
theorem numberAt_fieldBytes {l : List (Nat × Nat)} {k n v : Nat} (h : l[k]? = some (n, v)) :
    numberAt (fieldBytes l) ((l.map fun f => f.1).take k).sum n = v % 256 ^ n := by
  have hsplit : l = l.take k ++ (n, v) :: l.drop (k + 1) := by
    obtain ⟨hk, he⟩ := List.getElem?_eq_some_iff.mp h
    rw [← he, ← List.drop_eq_getElem_cons hk, List.take_append_drop]
  have hbytes : fieldBytes l = fieldBytes (l.take k) ++ (beBytes n v ++ fieldBytes (l.drop (k + 1))) := by
    conv_lhs => rw [hsplit]
    simp [fieldBytes]
  have hlen : ((l.map fun f => f.1).take k).sum = (fieldBytes (l.take k)).length := by
    rw [fieldBytes_length, List.map_take]
  have hread : numberAt (beBytes n v ++ fieldBytes (l.drop (k + 1))) 0 n = v % 256 ^ n := by
    rw [numberAt, List.drop_zero, List.take_left' (beBytes_length n v), foldl_bytes, Nat.mul_zero, Nat.zero_add]
  rw [hbytes, hlen, numberAt, List.drop_left]
  exact hread

/-! ### Flags -/

theorem flagBits_testBit (l : List Bool) (n : Nat) : (flagBits l).testBit n = l.getD n false := by
  induction l generalizing n with
  | nil => simp [flagBits]
  | cons b l ih =>
    cases n with
    | zero => cases b <;> simp [flagBits, Nat.testBit_zero]
    | succ n =>
      rw [flagBits, Nat.testBit_succ, List.getD_cons_succ, ← ih]
      congr 1
      have := Bool.toNat_lt b
      omega

/-! ### The record -/

/-- An estimate as the reply shows it: absent for a FREE slot (1.6.1). -/
def Plate.shownEstimate (p : Plate) (o : Option Nat) : Nat :=
  if p.state = .free then 0xFFFFFFFF else o.getD 0xFFFFFFFF

theorem estimateBytes_eq (p : Plate) (o : Option Nat) : estimateBytes p o = beBytes 4 (p.shownEstimate o) := rfl

/-- The numbers of the plate record reply, in the order of 1.6.1. -/
def State.plateFields (s : State) (i : Slot) : List (Nat × Nat) :=
  let p := s.plate i
  [(1, p.state.code), (1, p.typeIx.val), (2, p.lot), (1, p.copy),
    (1, flagBits [p.rush, p.holdPending, p.massCounted]), (2, p.width), (2, p.length), (1, p.nonimage),
    (1, (p.trim % 256).toNat), (2, p.relief), (2, p.floor), (2, p.backTarget), (2, p.faceTarget), (6, p.backDelivered),
    (6, p.faceDelivered), (6, p.detackDelivered), (6, p.postDelivered), (1, (p.lane.map LanePlace.code).getD 255),
    (2, p.speed.getD 0), (4, p.mass), (2, p.dryRemaining), (1, (p.drawer.map fun d => d.val).getD 255),
    (1, (p.holdReason.map HoldReason.code).getD 255), (1, (p.heldFrom.map fun h => h.state.code).getD 255),
    (2, p.marks.bits), (4, p.shownEstimate (s.backEstimate i)), (4, p.shownEstimate (s.faceEstimate i)),
    (4, p.shownEstimate (s.plateEstimate i))]

/-- The widths of the numbers of 1.6.1, in bytes. -/
def plateWidths : List Nat :=
  [1, 1, 2, 1, 1, 2, 2, 1, 1, 2, 2, 2, 2, 6, 6, 6, 6, 1, 2, 4, 2, 1, 1, 1, 2, 4, 4, 4]

theorem plateFields_widths (s : State) (i : Slot) : (s.plateFields i).map (fun f => f.1) = plateWidths := rfl

/-- Each number of the plate record reply, at its offset. -/
theorem numberAt_plateFields {s : State} {i : Slot} (k : Nat) {n v o m : Nat}
    (h : (s.plateFields i)[k]? = some (n, v)) (ho : (plateWidths.take k).sum = o) (hm : 256 ^ n = m) :
    numberAt (fieldBytes (s.plateFields i)) o n = v % m := by
  rw [← ho, ← hm, ← plateFields_widths s i]
  exact numberAt_fieldBytes h

theorem byteOf_plateFields {s : State} {i : Slot} (k : Nat) {v o : Nat}
    (h : (s.plateFields i)[k]? = some (1, v)) (ho : (plateWidths.take k).sum = o) :
    byteOf (fieldBytes (s.plateFields i)) o = v % 256 := numberAt_plateFields k h ho rfl

theorem ofInt_eq_byte1 (t : Int) : BitVec.ofInt 8 t = byte1 (t % 256).toNat := by
  refine BitVec.eq_of_toNat_eq ?_
  rw [byte1, BitVec.toNat_ofInt, BitVec.toNat_ofNat]
  omega

theorem plateBytes_eq (s : State) (i : Slot) : s.plateBytes i = fieldBytes (s.plateFields i) := by
  unfold State.plateBytes State.plateFields
  simp only [estimateBytes_eq, Plate.flagByte, codeOrFF_eq, ofInt_eq_byte1]
  simp only [fieldBytes_cons, fieldBytes_nil, beBytes_one, List.append_assoc, List.append_nil, List.cons_append,
    List.nil_append]

/-- Settles O28, number by number. -/
theorem readPlateShowsTheRecord : Obligations.ReadPlateShowsTheRecord := by
  refine ⟨fun s p b hg hb => ?_, fun s p b i hg hb => ⟨fieldBytes (s.plateFields i), ?_, ?_, ?_⟩⟩
  · rw [exec_readPlate p b hg, viaSlot_of_gt _ _ hb]; rfl
  · rw [exec_readPlate p b hg, viaSlot_of_lt _ _ hb, readPlateEffect, State.granted_mk, plateBytes_eq]
    rfl
  · rw [fieldBytes_length, plateFields_widths]; decide
  have at_ := @numberAt_plateFields s i
  have byte := @byteOf_plateFields s i
  refine ⟨(byte 0 rfl rfl).trans ?_, (byte 1 rfl rfl).trans ?_, at_ 2 rfl rfl (by norm_num),
    at_ 3 rfl rfl (by norm_num), (byte 4 rfl rfl).trans ?_, at_ 5 rfl rfl (by norm_num),
    at_ 6 rfl rfl (by norm_num), at_ 7 rfl rfl (by norm_num), ?_, at_ 9 rfl rfl (by norm_num),
    at_ 10 rfl rfl (by norm_num), at_ 11 rfl rfl (by norm_num), at_ 12 rfl rfl (by norm_num), at_ 13 rfl rfl (by norm_num),
    at_ 14 rfl rfl (by norm_num), at_ 15 rfl rfl (by norm_num), at_ 16 rfl rfl (by norm_num),
    (byte 17 rfl rfl).trans ?_, at_ 18 rfl rfl (by norm_num), at_ 19 rfl rfl (by norm_num),
    at_ 20 rfl rfl (by norm_num), (byte 21 rfl rfl).trans ?_, (byte 22 rfl rfl).trans ?_,
    (byte 23 rfl rfl).trans ?_, fun n => ?_, at_ 25 rfl rfl (by norm_num), at_ 26 rfl rfl (by norm_num),
    at_ 27 rfl rfl (by norm_num)⟩
  · cases (s.plate i).state <;> rfl
  · exact Nat.mod_eq_of_lt (by have := (s.plate i).typeIx.isLt; omega)
  · cases (s.plate i).rush <;> cases (s.plate i).holdPending <;> cases (s.plate i).massCounted <;> rfl
  · rw [byte 8 (o := 11) rfl rfl]; omega
  · rcases (s.plate i).lane with _ | _ | _ | _ <;> rfl
  · cases (s.plate i).drawer with
    | none => rfl
    | some d => exact Nat.mod_eq_of_lt (by have := d.isLt; change d.val < 256; omega)
  · rcases (s.plate i).holdReason with _ | _ | _ | _ | _ | _ | _ <;> rfl
  · rcases (s.plate i).heldFrom with _ | _ | _ | _ | _ | _ <;> rfl
  · rw [at_ 24 (o := 56) (m := 2 ^ 16) rfl rfl (by norm_num),
      Nat.testBit_mod_two_pow, decide_eq_true n.isLt, Bool.true_and, Marks.bits, flagBits_testBit]
    fin_cases n <;> rfl

end Sys2Proof.Machine
end

-- ==== Sys2Proof/Proofs/R ====
section
/-! DRAWER_UNLOAD, WASH_DONE and WASH_FAULT (R131 to R133, R150). -/

namespace Sys2Proof.Machine

section
variable {s : State} {i : Slot}

/-- Two changes of one plate's record make one. -/
theorem State.modPlate_modPlate (s : State) (i : Slot) (f g : Plate → Plate) :
    (s.modPlate i f).modPlate i g = s.modPlate i fun p => g (f p) := by
  simp [State.modPlate]

/-! ### DRAWER_UNLOAD -/

theorem drawerUnloadAt_of_empty {d : DrawerIx} (h : (s.drawer d).state = .empty) :
    drawerUnloadAt s d = refuse .drawerEmpty s := by
  simp only [drawerUnloadAt, h]

theorem drawerUnloadAt_of_slot {d : DrawerIx} (h : (s.drawer d).state ≠ .empty) (hi : (s.drawer d).slot = some i) :
    drawerUnloadAt s d
      = (s.unloadDrawer d i, ⟨.ok, [slotByte (some i), byte1 ((s.unloadDrawer d i).plate i).state.code]⟩) := by
  unfold drawerUnloadAt
  cases hd : (s.drawer d).state <;> simp_all

theorem unloadDrawer_of_dry {d : DrawerIx} (h : (s.drawer d).state = .dry) : s.unloadDrawer d i = s.emptyDrawer d i := by
  simp only [State.unloadDrawer, h]

theorem unloadDrawer_of_wet {d : DrawerIx} (h : (s.drawer d).state = .drying ∨ (s.drawer d).state = .opened) :
    s.unloadDrawer d i = ((s.modPlate i fun p => { p with dryRemaining := (s.drawer d).remaining }).emptyDrawer d i
      ).holdAtStep i .wetRemoved .washed .D := by
  rcases h with h | h <;> simp only [State.unloadDrawer, h]

/-- A wet plate taken out, as one change of its record (R150). -/
theorem unloadWet_eq (s : State) (d : DrawerIx) (i : Slot) (n : Nat) :
    ((s.modPlate i fun p => { p with dryRemaining := n }).emptyDrawer d i).holdAtStep i .wetRemoved .washed .D
      = ((s.modPlate i fun p => { p.heldFor .wetRemoved .washed with drawer := none, dryRemaining := n }
          ).modDrawer d fun _ => ⟨.empty, none, 0⟩).tellHeld i 5 .D := by
  have hplate := s.modPlate_modPlate i (fun p => { p with dryRemaining := n, drawer := none })
    fun p => p.heldFor .wetRemoved .washed
  rw [State.emptyDrawer, State.modPlate_modPlate, State.holdAtStep_eq]
  exact congrArg (fun t : State => (t.modDrawer d fun _ => ⟨.empty, none, 0⟩).tellHeld i 5 .D) hplate

/-- Settles O46, by the state of the drawer. -/
theorem drawerUnloadEmptiesTheDrawer : Obligations.DrawerUnloadEmptiesTheDrawer := by
  refine ⟨fun s b hg hb => ?_, fun s b d hg hb => ⟨fun hs => ?_, fun i hi => ⟨fun hs => ?_, fun hs => ?_⟩⟩⟩
    <;> rw [exec_drawerUnload b hg]
  · rw [viaDrawer_of_gt _ _ hb]; rfl
  · rw [viaDrawer_of_lt _ _ hb, drawerUnloadAt_of_empty hs]; rfl
  · have hst : ((s.emptyDrawer d i).plate i).state = (s.plate i).state := by rw [emptyDrawer_plate_self]
    rw [viaDrawer_of_lt _ _ hb, drawerUnloadAt_of_slot (by simp [hs]) hi, unloadDrawer_of_dry hs, hst]
    cases (s.plate i).state <;> rfl
  · have hst : ((s.unloadDrawer d i).plate i).state = .held := by
      rw [unloadDrawer_of_wet hs, holdAtStep_plate_self]; rfl
    rw [viaDrawer_of_lt _ _ hb, drawerUnloadAt_of_slot (by rcases hs with hs | hs <;> simp [hs]) hi, hst,
      unloadDrawer_of_wet hs, unloadWet_eq]
    rfl

/-! ### WASH_DONE and WASH_FAULT -/

/-- A record changed to what it is already. -/
theorem State.modPlate_of_fixed {f : Plate → Plate} (h : f (s.plate i) = s.plate i) : s.modPlate i f = s := by
  have hp : s.plates.set i (f s.plates[i]) = s.plates := (congrArg (s.plates.set i ·) h).trans (by simp [State.plate])
  simp only [State.modPlate, hp]

theorem State.inTransit_iff (s : State) (i : Slot) : s.inTransit i = true ↔ ∃ e ∈ s.transit, e.slot = i := by
  simp [State.inTransit]

theorem State.inTransit_of_split {e : TransitEntry} {before after : List TransitEntry}
    (h : s.transit = before ++ e :: after) (he : e.slot = i) : s.inTransit i = true :=
  (s.inTransit_iff i).mpr ⟨e, by simp [h], he⟩

theorem book_plate_self (s : State) (i : Slot) : (s.book i).plate i = { s.plate i with massCounted := true } := by
  unfold State.book
  split
  next hc => rw [← hc]
  · exact State.plate_modPlate_self ..

/-- The plate leaves the transit list and its mass is booked once (R58, R124). -/
theorem leaveTransit_book {e : TransitEntry} {before after : List TransitEntry} (h : s.transit = before ++ e :: after)
    (he : e.slot = i) (hn : ∀ d ∈ before ++ after, d.slot ≠ i) :
    (s.leaveTransit i).book i = { s.modPlate i (fun p => { p with massCounted := true }) with
      transit := before ++ after
      solvent := { s.solvent with
        mass := s.solvent.mass.map fun m => if (s.plate i).massCounted then m else m + (s.plate i).mass } } := by
  have hl : s.leaveTransit i = { s with transit := before ++ after } := by
    have hf : (before ++ after).filter (fun d => d.slot != i) = before ++ after :=
      List.filter_eq_self.mpr fun d hd => by simpa using hn d hd
    rw [List.filter_append] at hf
    simp [State.leaveTransit, h, he, hf]
  rw [hl]
  cases hc : (s.plate i).massCounted
  · simp only [Bool.false_eq_true, if_false]
    exact if_neg (ne_true_of_eq_false hc)
  · have hfix : s.modPlate i (fun p => { p with massCounted := true }) = s :=
      State.modPlate_of_fixed (by rw [← hc])
    rw [hfix]
    simp [State.book, show (State.plate { s with transit := before ++ after } i).massCounted = true from hc]

/-- Settles O44, by where the plate stands in the transit list. -/
theorem washEndsBookTheMass : Obligations.WashEndsBookTheMass := by
  refine ⟨fun s b hb => ⟨fun hg => ?_, fun hg => ?_⟩, fun s b i hb hn => ?_, fun s b i e d rest hb hg ht hm he hd => ?_,
    fun s t b i e before after hb ht he hn hdef => ?_⟩
  · rw [exec_washDone b hg, viaSlot_of_gt _ _ hb]; rfl
  · rw [exec_washFault b hg, viaSlot_of_gt _ _ hb]; rfl
  · have hout : s.inTransit i = false := by
      rw [← Bool.not_eq_true, State.inTransit_iff]
      rintro ⟨e, hm, he⟩
      exact hn e hm he
    refine ⟨fun hg => ?_, fun hg => ?_⟩
    · rw [exec_washDone b hg, viaSlot_of_lt _ _ hb, washDonePlate, hout]; rfl
    · rw [exec_washFault b hg, viaSlot_of_lt _ _ hb, washFaultPlate, hout]; rfl
  · have hin : s.inTransit i = true := (s.inTransit_iff i).mpr ⟨e, by simp [ht, hm], he⟩
    have hhead : (s.transitHead != some i) = true := by simp [State.transitHead, ht, hd]
    rw [exec_washDone b hg, viaSlot_of_lt _ _ hb, washDonePlate, hin, hhead]; rfl
  · have hin := State.inTransit_of_split ht he
    have hbook := leaveTransit_book ht he hn
    rw [← hdef] at hbook
    have hplate : t.plate i = { s.plate i with massCounted := true } := by
      rw [← hbook, book_plate_self]; rfl
    have hq : t.dryerQ = s.dryerQ := by rw [hdef]; rfl
    refine ⟨fun hg hbefore => ?_, fun hg => ?_⟩
    · have hhead : (s.transitHead != some i) = false := by simp [State.transitHead, ht, hbefore, he]
      have hdone : washDonePlate s i = ((t.endWash i).evaluateGate, ⟨.ok, [byte1 ((t.endWash i).plate i).state.code]⟩) := by
        simp only [washDonePlate, hin, hhead, hbook, Bool.not_true, Bool.false_eq_true, if_false]
      rw [exec_washDone b hg, viaSlot_of_lt _ _ hb, hdone]
      refine ⟨fun hp => ?_, fun hp => ?_⟩
      · have hend : t.endWash i = t.holdAtStep i .operator .washed .W := if_pos (by rw [hplate]; exact hp)
        rw [hend, holdAtStep_plate_self]
        rfl
      · have hend : t.endWash i = (t.modPlate i (fun p => p.inState .washed)).joinTail .dryer i :=
          if_neg (by rw [hplate]; simp [hp])
        have hst : (((t.modPlate i fun p => p.inState .washed).joinTail .dryer i).plate i).state = .washed := by
          rw [State.joinTail, fillList_plate, State.plate_modPlate_self]; rfl
        rw [hend, hst, ← hq]
        rfl
    · rw [exec_washFault b hg, viaSlot_of_lt _ _ hb, washFaultPlate, hin, hbook]
      rfl

end

end Sys2Proof.Machine
end

-- ==== Sys2Proof/Proofs/S ====
section
/-! UNLOAD, and FRAME_ABORT of a LOADED frame (R63, R87 to R89, R91). -/

namespace Sys2Proof.Machine

section
variable {s : State} {i j : Slot}

/-! ### UNLOAD -/

theorem clearBed_eq (s : State) : s.clearBed = s.bedCleared := rfl

theorem offLane_modPlate (s : State) (i : Slot) (f : Plate → Plate) :
    (s.offLane i).modPlate i f = s.modPlate i fun p => f { p with lane := none } :=
  s.modPlate_modPlate i _ f

theorem settleUnloaded_eq (s : State) (i : Slot) (lane : Lane) : s.settleUnloaded i lane = s.unloaded i lane := by
  unfold State.settleUnloaded State.unloaded
  simp only [State.holdAtStep_eq, offLane_modPlate]
  cases lane.failure with
  | true => rfl
  | false =>
    cases lane.short with
    | true => rfl
    | false => cases (s.plate i).holdPending <;> rfl

theorem settleUnloaded_code (s : State) (i : Slot) (lane : Lane) :
    byte1 ((s.settleUnloaded i lane).plate i).state.code = s.unloadCode i lane := by
  unfold State.settleUnloaded State.unloadCode
  cases lane.failure with
  | true => rw [if_pos rfl, holdAtStep_plate_self]; rfl
  | false =>
    cases lane.short with
    | true => rw [if_neg (by decide), if_pos rfl, holdAtStep_plate_self]; rfl
    | false =>
      rw [if_neg (by decide), if_neg (by decide)]
      cases (s.plate i).holdPending with
      | true => rw [if_pos rfl, holdAtStep_plate_self]; rfl
      | false => rw [if_neg (by decide), State.joinTail, fillList_plate, State.plate_modPlate_self]; rfl

theorem State.laneCode_of_slot {lane : Lane} (h : lane.slot = some i) : s.laneCode lane = byte1 (s.plate i).state.code := by
  simp only [State.laneCode, h]

theorem State.settleLane_of_slot {lane : Lane} (h : lane.slot = some i) : s.settleLane lane = s.settleUnloaded i lane := by
  simp only [State.settleLane, h]

theorem unloadEffect_one (hs : s.frame.state = .faceEnd) (ha : s.frame.laneA.slot = some i)
    (hb : s.frame.unloadLaneB.slot = none) :
    unloadEffect s = ((s.unloaded i s.frame.laneA).bedCleared, ⟨.ok, [s.unloadCode i s.frame.laneA, 0xFF]⟩) := by
  have hB (t : State) : t.settleLane s.frame.unloadLaneB = t := by simp only [State.settleLane, hb]
  have hcode (t : State) : t.laneCode s.frame.unloadLaneB = 0xFF := by simp only [State.laneCode, hb]
  rw [unloadEffect, if_neg (by simp [hs])]
  simp only [hB, hcode, State.settleLane_of_slot ha, State.laneCode_of_slot ha, settleUnloaded_code]
  rw [settleUnloaded_eq, clearBed_eq]

theorem unloadEffect_two (hs : s.frame.state = .faceEnd) (ha : s.frame.laneA.slot = some i)
    (hu : s.frame.unloadLaneB = s.frame.laneB) (hb : s.frame.laneB.slot = some j) (hij : i ≠ j) :
    unloadEffect s = (((s.unloaded i s.frame.laneA).unloaded j s.frame.laneB).bedCleared,
      ⟨.ok, [s.unloadCode i s.frame.laneA, s.unloadCode j s.frame.laneB]⟩) := by
  have hj : (s.settleUnloaded i s.frame.laneA).unloadCode j s.frame.laneB = s.unloadCode j s.frame.laneB := by
    simp only [State.unloadCode, settleUnloaded_plate_ne (Ne.symm hij)]
  rw [unloadEffect, if_neg (by simp [hs])]
  simp only [hu, State.settleLane_of_slot ha, State.settleLane_of_slot hb, State.laneCode_of_slot ha,
    State.laneCode_of_slot hb, settleUnloaded_plate_ne hij, settleUnloaded_code, hj]
  rw [settleUnloaded_eq, settleUnloaded_eq, clearBed_eq]

/-- Settles O39, by the plates on the bed. -/
theorem unloadSettlesTheBed : Obligations.UnloadSettlesTheBed := by
  refine fun s hg => ⟨fun hs => ?_, fun hs i ha => ?_⟩
  · rw [exec_unload hg, unloadEffect, if_pos (by simpa using hs)]; rfl
  · rcases FrameUnit.lanes_cases ha with ⟨-, hb⟩ | ⟨j, hji, hb, hu, -⟩
    · refine ⟨fun _ => ?_, fun j hj hij => ?_⟩
      · rw [exec_unload hg, unloadEffect_one hs ha hb]; rfl
      · simp [FrameUnit.unloadLaneB, FrameUnit.isWide, ha, hj, hij] at hb
    · refine ⟨fun h => ?_, fun j' hj' _ => ?_⟩
      · simp [hb, hji] at h
      · obtain rfl : j = j' := by simpa [hb] using hj'
        rw [exec_unload hg, unloadEffect_two hs ha hu hb (Ne.symm hji)]; rfl

/-! ### FRAME_ABORT of a LOADED frame -/

theorem undoLane_of_pending (h : (s.plate i).holdPending = true) (ahead : Option Slot) :
    s.undoLane ahead i = s.heldAtUndo i := by
  rw [State.undoLane, if_pos h, State.holdAtStep_eq, offLane_modPlate]
  rfl

/-- Neither the lane nor the state of a plate's record says where it returns to. -/
theorem returnedQueue_modPlate (s : State) (ahead : Option Slot) (i k : Slot) {f : Plate → Plate}
    (hf : ∀ p, (f p).rush = p.rush) : (s.modPlate k f).returnedQueue ahead i = s.returnedQueue ahead i := by
  have hq : (s.modPlate k f).atClassHead s.exposureQ i = s.atClassHead s.exposureQ i :=
    State.atClassHead_modPlate s k i hf _
  cases ahead with
  | none => exact hq
  | some j =>
    simp only [State.returnedQueue, State.rush_modPlate s k _ hf]
    exact congrArg (ite _ _) hq

theorem undoLane_of_free (h : (s.plate i).holdPending = false) (ahead : Option Slot) :
    s.undoLane ahead i = s.putBack i (s.returnedQueue ahead i) := by
  rw [State.undoLane, if_neg (by simp [h])]
  simp only [offLane_modPlate, returnedQueue_modPlate s ahead i i (f := fun p => Plate.inState { p with lane := none } .staged)
    (fun _ => rfl)]
  rfl

theorem heldAtUndo_rush (s : State) (i k : Slot) : ((s.heldAtUndo i).plate k).rush = (s.plate k).rush :=
  State.rush_modPlate s i k (f := fun p => { p.heldFor .operator .staged with lane := none }) fun _ => rfl

theorem putBack_eq (s : State) (i : Slot) (q : List Slot) :
    s.putBack i q = (s.modPlate i fun p => { p with state := .staged, lane := none }).fillList .exposure q := rfl

theorem putBack_rush (s : State) (i k : Slot) (q : List Slot) : ((s.putBack i q).plate k).rush = (s.plate k).rush := by
  rw [putBack_eq, fillList_plate]
  exact State.rush_modPlate s i k fun _ => rfl

theorem putBack_exposureQ (s : State) (i : Slot) (q : List Slot) : (s.putBack i q).exposureQ = q := by
  rw [putBack_eq]
  simp [State.fillList, State.setWaitList]

section classes
variable {r n : List Slot} (h : s.classes r n)
include h

theorem State.classes.heldAtUndo (i : Slot) : (s.heldAtUndo i).classes r n :=
  ⟨h.all, fun k hk => (heldAtUndo_rush s i k).trans (h.rush k hk), fun k hk => (heldAtUndo_rush s i k).trans (h.normal k hk)⟩

/-- A rush plate put back at the head of its class. -/
theorem State.classes.putBack_rush (hi : (s.plate i).rush = true) : (s.putBack i (i :: (r ++ n))).classes (i :: r) n :=
  ⟨putBack_exposureQ .., fun k hk => (Machine.putBack_rush ..).trans ((List.mem_cons.mp hk).elim (· ▸ hi) (h.rush k)),
    fun k hk => (Machine.putBack_rush ..).trans (h.normal k hk)⟩

/-- A normal plate put back at the head of its class. -/
theorem State.classes.putBack_normal (hi : (s.plate i).rush = false) : (s.putBack i (r ++ i :: n)).classes r (i :: n) :=
  ⟨putBack_exposureQ .., fun k hk => (Machine.putBack_rush ..).trans (h.rush k hk),
    fun k hk => (Machine.putBack_rush ..).trans ((List.mem_cons.mp hk).elim (· ▸ hi) (h.normal k))⟩

theorem undoLane_none (hp : (s.plate i).holdPending = false) :
    s.undoLane none i = s.putBack i (if (s.plate i).rush then i :: (r ++ n) else r ++ i :: n) := by
  rw [undoLane_of_free hp, ← h.atClassHead]
  rfl

/-- Lane B's plate returns after lane A's: behind it in the same class, else at the head of its own (R63). -/
theorem returnedQueue_behind (hi : i ∉ s.exposureQ) :
    (s.putBack i (if (s.plate i).rush then i :: (r ++ n) else r ++ i :: n)).returnedQueue (some i) j
      = match (s.plate i).rush, (s.plate j).rush with
        | true, true => i :: j :: (r ++ n)
        | true, false => i :: r ++ j :: n
        | false, true => j :: r ++ i :: n
        | false, false => r ++ i :: j :: n := by
  have hir : i ∉ r := fun hm => hi (by simp [h.all, hm])
  simp only [State.returnedQueue, putBack_rush, putBack_exposureQ]
  cases hri : (s.plate i).rush <;> cases hrj : (s.plate j).rush
  · exact placeBehind_mem hir
  · have := (h.putBack_normal hri).atClassHead j
    rw [putBack_exposureQ, putBack_rush, hrj] at this
    exact this
  · have := (h.putBack_rush hri).atClassHead j
    rw [putBack_exposureQ, Machine.putBack_rush, hrj] at this
    exact this
  · exact placeBehind_mem (before := []) (by simp)

end classes

theorem frameAbortEffect_of_loaded (hs : s.frame.state = .loaded) :
    frameAbortEffect s = ({ s.undoLoad with frame := {} }, Reply.just .ok) := by
  simp only [frameAbortEffect, hs]

theorem frameAbortEffect_of_settled (hs : s.frame.state = .empty ∨ s.frame.state = .faceEnd) :
    frameAbortEffect s = refuse .badState s := by
  rcases hs with hs | hs <;> simp only [frameAbortEffect, hs]

/-- One plate on the bed: alone in lane A, or wide (R78). -/
theorem FrameUnit.plates_one {u : FrameUnit} (ha : u.laneA.slot = some i)
    (hb : u.laneB.slot = some i ∨ u.laneB.slot = none) : u.plates = [i] := by
  rcases FrameUnit.lanes_cases ha with ⟨hp, -⟩ | ⟨j, hji, hj, -, -⟩
  · exact hp
  · simp [hj, hji] at hb

theorem FrameUnit.plates_two {u : FrameUnit} (ha : u.laneA.slot = some i) (hb : u.laneB.slot = some j) (hij : i ≠ j) :
    u.plates = [i, j] := by
  simp [FrameUnit.plates, FrameUnit.isWide, ha, hb, hij]

/-- Settles O40, by the pending holds of the plates on the bed. -/
theorem frameAbortUndoesALoad : Obligations.FrameAbortUndoesALoad := by
  refine fun s hg => ⟨fun hs => ?_, fun hs i r n ha hc hi => ⟨fun hb => ?_, fun j hb hij hj => ?_⟩⟩
    <;> rw [exec_frameAbort hg]
  · rw [frameAbortEffect_of_settled hs]; rfl
  · rw [frameAbortEffect_of_loaded hs, undoLoad_one (FrameUnit.plates_one ha hb)]
    refine ⟨fun hp => ?_, fun hp => ?_⟩
    · rw [undoLane_of_pending hp]; rfl
    · rw [undoLane_none hc hp]; rfl
  · rw [frameAbortEffect_of_loaded hs, undoLoad_two (FrameUnit.plates_two ha hb hij)]
    have hpend (q : Bool) (hq : (s.plate j).holdPending = q) : ((s.undoLane none i).plate j).holdPending = q := by
      rw [undoLane_plate_ne (Ne.symm hij), hq]
    refine ⟨fun hp hq => ?_, fun hp hq => ?_, fun hp hq => ?_, fun hp hq => ?_⟩
    · rw [undoLane_of_pending (hpend _ hq), undoLane_of_pending hp]; rfl
    · have hq' := hpend _ hq
      rw [undoLane_of_pending hp] at hq'
      rw [hp, if_pos rfl, undoLane_of_pending hp, undoLane_none (hc.heldAtUndo i) hq', heldAtUndo_rush]
      rfl
    · rw [undoLane_of_pending (hpend _ hq), undoLane_none hc hp]; rfl
    · rw [hp, if_neg (by decide), undoLane_of_free (hpend _ hq), undoLane_none hc hp, returnedQueue_behind hc hi]
      rfl

end

end Sys2Proof.Machine
end

-- ==== Sys2Proof/Proofs/T ====
section
/-! FRAME_ABORT of a begun load, FINISH_UNLOAD and FINISH_ABORT (R90, R118, R119, R159 to R161): the channels of a run are
broken off one by one, and each ends without a request on the link. -/

namespace Sys2Proof.Machine

section
variable {s t : State} {a b c d : Chan} {i j : Slot} {oa ob : Option Slot}

/-! ### The link and the records -/

theorem Link.drop_comm (k : Link) (c d : Chan) : (k.drop c).drop d = (k.drop d).drop c := by
  have hdue : (k.due.set c.index none).set d.index none = (k.due.set d.index none).set c.index none := by
    cases c <;> cases d <;> simp [Chan.index, Vector.set_comm]
  have hbusy : ((k.drop c).drop d).busy = ((k.drop d).drop c).busy := by
    cases h : k.busy with
    | none => simp [Link.drop, h]
    | some r => by_cases hc : r.chan = c <;> by_cases hd : r.chan = d <;> simp [Link.drop, h, hc, hd] <;> simp_all
  exact congrArg₂ (fun due busy => Link.mk busy due k.wire) hdue hbusy

/-- A channel that is not under way has no request and no live transaction (R106). -/
theorem LightOk.drop_of_inactive (h : LightOk s) (hc : s.chanActive c = false) : s.link.drop c = s.link := by
  have hrun : (s.chan c).state ≠ .running := fun e => by simp [State.chanActive, e, ChanState.isActive] at hc
  have hdue : s.link.due.set c.index none = s.link.due := by
    have hn : s.link.due[c.index] = none := by
      by_contra hn
      exact hrun (h.due c (Option.isSome_iff_ne_none.mpr hn)).1
    rw [← hn]; simp
  have hbusy : (s.link.drop c).busy = s.link.busy := by
    cases hb : s.link.busy with
    | none => simp [Link.drop, hb]
    | some r =>
      obtain ⟨rc, ts, live⟩ := r
      by_cases hr : rc = c
      · have hlive : live = false := by
          by_contra hl
          exact hrun (hr ▸ (h.live _ hb (by simpa using hl)).1)
        simp [Link.drop, hb, hlive]
      · simp [Link.drop, hb, hr]
  exact congrArg₂ (fun due busy => Link.mk busy due s.link.wire) hdue hbusy

/-- The state with a channel's request withdrawn and its record replaced. -/
def State.dropped (s : State) (c : Chan) (k : Channel) : State :=
  { s with link := s.link.drop c, chans := s.chans.set c.index k }

theorem dropped_chan_self (s : State) (c : Chan) (k : Channel) : (s.dropped c k).chan c = k := by
  simp [State.dropped, State.chan]

theorem dropped_chan_ne (s : State) (k : Channel) (h : d ≠ c) : (s.dropped c k).chan d = s.chan d :=
  State.chan_modChan_ne (s := s) (f := fun _ => k) h

theorem modPlateOpt_dropped (s : State) (c : Chan) (k : Channel) (o : Option Slot) (f : Plate → Plate) :
    (s.dropped c k).modPlate? o f = (s.modPlate? o f).dropped c k := by
  cases o <;> rfl

theorem dropped_inactive (h : s.link.drop c = s.link) : s.dropped c (s.chan c) = s := by
  simp [State.dropped, State.chan, h]

theorem stopChan_eq (s : State) (res : StopResult) (c : Chan) :
    ∃ k : Channel, s.stopChan res c = s.dropped c k ∧ k.state = .stopped ∧ k.slot = (s.chan c).slot :=
  ⟨_, by simp only [State.stopChan, State.withdraw, State.modChan, State.dropped, Vector.set_set]; rfl, rfl,
    by simp [State.chan]⟩

/-! ### Channels broken off -/

theorem Plate.addDose_zero {p : Plate} (ph : Phase) (h : p.backDelivered ≤ 2 ^ 48 - 1 ∧ p.faceDelivered ≤ 2 ^ 48 - 1
    ∧ p.detackDelivered ≤ 2 ^ 48 - 1 ∧ p.postDelivered ≤ 2 ^ 48 - 1) : p.addDose ph 0 = p := by
  obtain ⟨hb, hf, hd, hp⟩ := h
  cases ph <;> simp only [Plate.addDose, doseAdd, doseMax, Nat.add_zero, Nat.min_eq_right hb, Nat.min_eq_right hf,
    Nat.min_eq_right hd, Nat.min_eq_right hp]

theorem DosesOk.addDose_zero (h : DosesOk s) (o : Option Slot) (ph : Phase) :
    s.modPlate? o (fun p => p.addDose ph 0) = s := by
  cases o with
  | none => rfl
  | some i => exact State.modPlate_of_fixed (f := fun p => p.addDose ph 0) (Plate.addDose_zero ph (h i))

/-- A channel that counts for the plate o, if it is under way, and in no pair. -/
structure State.Alone (s : State) (c : Chan) (o : Option Slot) : Prop where
  active : s.chanActive c = true → (s.chan c).partner = none ∧ (s.chan c).slot = o
  quiet : s.chanActive c = false → s.link.drop c = s.link

theorem State.runOf_none (h : (s.chan c).partner = none) :
    s.runOf c = [c] ∧ s.runAccumulator c = (s.chan c).accumulator := by
  simp only [State.runOf, State.runAccumulator, h, and_self]

theorem State.runOf_some (h : (s.chan c).partner = some d) :
    s.runOf c = [c, d] ∧ s.runAccumulator c = min (s.chan c).accumulator (s.chan d).accumulator := by
  simp only [State.runOf, State.runAccumulator, h, and_self]

theorem abortRun_of_inactive (h : s.chanActive c = false) : s.abortRun c = s := if_neg (by simp [h])

theorem abortRun_alone (h : s.Alone c oa) (hd : DosesOk s) :
    ∃ k, s.abortRun c = (s.modPlate? oa fun p => p.addDose c.phase (s.owed c)).dropped c k := by
  cases hc : s.chanActive c with
  | false =>
    refine ⟨s.chan c, ?_⟩
    rw [abortRun_of_inactive hc, State.owed, if_neg (by simp [hc]), hd.addDose_zero, dropped_inactive (h.quiet hc)]
  | true =>
    obtain ⟨hp, hs⟩ := h.active hc
    obtain ⟨k, hk, -, hslot⟩ := stopChan_eq s .aborted c
    obtain ⟨hrun, hacc⟩ := State.runOf_none hp
    refine ⟨k, ?_⟩
    rw [State.abortRun, if_pos hc, hrun, hacc, State.owed, if_pos hc, ← modPlateOpt_dropped]
    simp only [List.foldl_cons, List.foldl_nil, hk, State.deliver, dropped_chan_self, hslot, hs]

/-- The two channels of a wide plate's phase (R104): under way together, or neither. -/
structure State.Paired (s : State) (a b : Chan) (i : Slot) : Prop where
  ne : a ≠ b
  same : s.chanActive b = s.chanActive a
  active : s.chanActive a = true → (s.chan a).partner = some b ∧ (s.chan a).slot = some i
  quiet : s.chanActive a = false → s.link.drop a = s.link ∧ s.link.drop b = s.link

/-- The state t is s with two channels broken off, and the plates of theirs changed so. -/
def State.Broken (s t : State) (a b : Chan) (oa ob : Option Slot) (f g : Plate → Plate) : Prop :=
  ∃ k l, t = (((s.modPlate? oa f).modPlate? ob g).dropped a k).dropped b l

theorem chanActive_congr (h : t.chan c = s.chan c) : t.chanActive c = s.chanActive c := by
  simp only [State.chanActive, h]

theorem owed_congr (h : t.chan c = s.chan c) : t.owed c = s.owed c := by
  simp only [State.owed, chanActive_congr h, h]

theorem State.Alone.congr (h : s.Alone c oa) (hc : t.chan c = s.chan c)
    (hl : s.link.drop c = s.link → t.link.drop c = t.link) : t.Alone c oa :=
  ⟨fun hx => hc ▸ h.active (chanActive_congr hc ▸ hx), fun hx => hl (h.quiet (chanActive_congr hc ▸ hx))⟩

theorem State.Paired.congr (h : s.Paired a b i) (ha : t.chan a = s.chan a) (hb : t.chan b = s.chan b)
    (hl : ∀ c, s.link.drop c = s.link → t.link.drop c = t.link) : t.Paired a b i where
  ne := h.ne
  same := by rw [chanActive_congr ha, chanActive_congr hb, h.same]
  active hx := ha ▸ h.active (chanActive_congr ha ▸ hx)
  quiet hx := (h.quiet (chanActive_congr ha ▸ hx)).imp (hl a) (hl b)

/-- A request that is not there is not there when others are withdrawn. -/
theorem Link.drop_drop_of_quiet {k : Link} (c : Chan) (h : k.drop d = k) : (k.drop c).drop d = k.drop c := by
  rw [Link.drop_comm, h]

theorem DosesOk.abortRun (h : DosesOk s) (c : Chan) : DosesOk (s.abortRun c) := fun i =>
  ((Later.abortRun (lo := 0) (hi := 0) s c).plates i).doses (h i)

theorem break_alone (ha : s.Alone a oa) (hb : s.Alone b ob) (hab : b ≠ a) (hd : DosesOk s) :
    s.Broken ((s.abortRun a).abortRun b) a b oa ob (fun p => p.addDose a.phase (s.owed a))
      (fun p => p.addDose b.phase (s.owed b)) := by
  obtain ⟨k, hk⟩ := abortRun_alone ha hd
  have hchan : (s.abortRun a).chan b = s.chan b := by
    rw [hk, dropped_chan_ne _ _ hab]; cases oa <;> rfl
  have hlink : (s.abortRun a).link = s.link.drop a := by
    rw [hk]; cases oa <;> rfl
  obtain ⟨l, hl⟩ := abortRun_alone (hb.congr hchan fun h => by rw [hlink, Link.drop_drop_of_quiet a h]) (hd.abortRun a)
  exact ⟨k, l, by rw [hl, owed_congr hchan, hk, modPlateOpt_dropped]⟩

theorem break_paired (h : s.Paired a b i) (hd : DosesOk s) (g : Plate → Plate) :
    s.Broken ((s.abortRun a).abortRun b) a b (some i) none (fun p => p.addDose a.phase (min (s.owed a) (s.owed b))) g := by
  cases hc : s.chanActive a with
  | false =>
    have hcb : s.chanActive b = false := h.same.trans hc
    obtain ⟨hqa, hqb⟩ := h.quiet hc
    refine ⟨s.chan a, s.chan b, ?_⟩
    rw [abortRun_of_inactive hc, abortRun_of_inactive hcb, State.owed, if_neg (by simp [hc]), Nat.zero_min,
      hd.addDose_zero, State.modPlate?, dropped_inactive hqa, dropped_inactive hqb]
  | true =>
    have hcb : s.chanActive b = true := h.same.trans hc
    obtain ⟨hpart, hslot⟩ := h.active hc
    obtain ⟨k, hk, -, hks⟩ := stopChan_eq s .aborted a
    obtain ⟨l, hl, hls, -⟩ := stopChan_eq (s.dropped a k) .aborted b
    obtain ⟨hrun, hacc⟩ := State.runOf_some hpart
    have habort : s.abortRun a = ((s.dropped a k).dropped b l).modPlate? (some i) fun p =>
        p.addDose a.phase (min (s.chan a).accumulator (s.chan b).accumulator) := by
      rw [State.abortRun, if_pos hc, hrun, hacc]
      simp only [List.foldl_cons, List.foldl_nil, hk, hl, State.deliver, dropped_chan_ne _ _ h.ne, dropped_chan_self, hks,
        hslot]
    have hout : (s.abortRun a).chanActive b = false := by
      rw [habort, modPlateOpt_dropped, State.chanActive, dropped_chan_self, hls]; rfl
    refine ⟨k, l, ?_⟩
    rw [abortRun_of_inactive hout, habort, modPlateOpt_dropped, modPlateOpt_dropped, State.owed, State.owed, if_pos hc,
      if_pos hcb]
    rfl

theorem State.Broken.chan {f g : Plate → Plate} (h : s.Broken t a b oa ob f g) (ha : c ≠ a) (hb : c ≠ b) :
    t.chan c = s.chan c := by
  obtain ⟨k, l, rfl⟩ := h
  rw [dropped_chan_ne _ _ hb, dropped_chan_ne _ _ ha]
  cases oa <;> cases ob <;> rfl

theorem State.Broken.quiet {f g : Plate → Plate} (h : s.Broken t a b oa ob f g) (c : Chan) (hc : s.link.drop c = s.link) :
    t.link.drop c = t.link := by
  have hl : t.link = (s.link.drop a).drop b := by
    obtain ⟨k, l, rfl⟩ := h
    cases oa <;> cases ob <;> rfl
  rw [hl, Link.drop_drop_of_quiet b (Link.drop_drop_of_quiet a hc)]

/-! ### Which channels count for which plate (R101, R104) -/

theorem State.chanActive_not_idle (h : s.chanActive c = true) : (s.chan c).state ≠ .idle := fun e => by
  simp [State.chanActive, e, ChanState.isActive] at h

theorem LightOk.alone_lane {l : LaneId} (hl : LightOk s) (hp : PhasesOk s) (hc : c.lane = some l)
    (hw : s.frame.isWide = false) : s.Alone c (s.frame.lane l).slot where
  active h := by
    obtain ⟨hslot, hpart⟩ := hp.lanes c l hc (State.chanActive_not_idle h)
    exact ⟨by simpa [hw] using hpart, hslot⟩
  quiet := hl.drop_of_inactive

theorem LightOk.alone_position (hl : LightOk s) (hp : PhasesOk s) (hc : c.lane = none) : s.Alone c s.finisher.slot where
  active h := by
    refine ⟨?_, hp.positions c hc (State.chanActive_not_idle h)⟩
    have hno : Chan.partnerOf c = none := by cases c <;> simp_all [Chan.lane, Chan.partnerOf]
    by_contra hpart
    obtain ⟨d, hd⟩ := Option.ne_none_iff_exists'.mp hpart
    simp [(hl.pairs c d hd).1] at hno
  quiet := hl.drop_of_inactive

/-- A channel of a wide plate that is under way has its partner under way (R104). -/
theorem LightOk.partner_active {l : LaneId} (hl : LightOk s) (hp : PhasesOk s) (hc : c.lane = some l)
    (hw : s.frame.isWide = true) (hd : Chan.partnerOf c = some d) (h : s.chanActive c = true) :
    (s.chan c).partner = some d ∧ s.chanActive d = true := by
  obtain ⟨-, hpart⟩ := hp.lanes c l hc (State.chanActive_not_idle h)
  obtain ⟨e, he⟩ := Option.isSome_iff_exists.mp (hpart.trans hw)
  obtain ⟨hof, -, hst, -⟩ := hl.pairs c e he
  obtain rfl : e = d := by simpa [hd] using hof.symm
  exact ⟨he, by rw [State.chanActive, hst]; exact h⟩

theorem LightOk.paired {l m : LaneId} (hl : LightOk s) (hp : PhasesOk s) (ha : a.lane = some l) (hb : b.lane = some m)
    (hw : s.frame.isWide = true) (hab : Chan.partnerOf a = some b) (hba : Chan.partnerOf b = some a)
    (hi : (s.frame.lane l).slot = some i) : s.Paired a b i where
  ne e := by subst e; cases a <;> simp [Chan.partnerOf] at hab
  same := Bool.eq_iff_iff.mpr
    ⟨fun h => (hl.partner_active hp hb hw hba h).2, fun h => (hl.partner_active hp ha hw hab h).2⟩
  active h := ⟨(hl.partner_active hp ha hw hab h).1,
    (hp.lanes a l ha (State.chanActive_not_idle h)).1.trans hi⟩
  quiet h := ⟨hl.drop_of_inactive h, hl.drop_of_inactive (Bool.eq_false_iff.mpr fun h' =>
    Bool.eq_false_iff.mp h (hl.partner_active hp hb hw hba h').2)⟩

/-! ### FRAME_ABORT of a begun load -/

theorem State.modPlate_comm (s : State) (h : i ≠ j) (f g : Plate → Plate) :
    (s.modPlate i f).modPlate j g = (s.modPlate j g).modPlate i f := by
  have hv : i.val ≠ j.val := fun e => h (Fin.ext e)
  simp [State.modPlate, Vector.set_comm _ _ hv, Vector.getElem_set_ne _ _ hv, Vector.getElem_set_ne _ _ hv.symm]

/-- The requests withdrawn of the four frame channels (R106). -/
theorem Link.without_frame (k : Link) : k.without (fun c => c.lane.isSome)
    = (((k.drop .backA).drop .backB).drop .faceA).drop .faceB := by
  have hdue : (k.without fun c => c.lane.isSome).due = ((((k.drop .backA).drop .backB).drop .faceA).drop .faceB).due := by
    ext n hn : 1
    interval_cases n <;> simp [Link.without, Link.drop, Chan.index, chanAt, Chan.lane]
  have hbusy : (k.without fun c => c.lane.isSome).busy
      = ((((k.drop .backA).drop .backB).drop .faceA).drop .faceB).busy := by
    cases hb : k.busy with
    | none => simp [Link.without, Link.drop, hb]
    | some r =>
      obtain ⟨c, ts, live⟩ := r
      cases c <;> simp [Link.without, Link.drop, hb, Chan.lane]
  exact congrArg₂ (fun due busy => Link.mk busy due k.wire) hdue hbusy

/-- The requests withdrawn of the two finishing channels (R106). -/
theorem Link.without_finish (k : Link) : k.without (fun c => c.lane.isNone) = (k.drop .detack).drop .post := by
  have hdue : (k.without fun c => c.lane.isNone).due = ((k.drop .detack).drop .post).due := by
    ext n hn : 1
    interval_cases n <;> simp [Link.without, Link.drop, Chan.index, chanAt, Chan.lane]
  have hbusy : (k.without fun c => c.lane.isNone).busy = ((k.drop .detack).drop .post).busy := by
    cases hb : k.busy with
    | none => simp [Link.without, Link.drop, hb]
    | some r =>
      obtain ⟨c, ts, live⟩ := r
      cases c <;> simp [Link.without, Link.drop, hb, Chan.lane]
  exact congrArg₂ (fun due busy => Link.mk busy due k.wire) hdue hbusy

/-- The state with another link record. -/
def State.withLink (s : State) (k : Link) : State := { s with link := k }

theorem clearBed_dropped (s : State) (k l m n : Channel) :
    ((((s.dropped .backA k).dropped .backB l).dropped .faceA m).dropped .faceB n).clearBed
      = (s.withLink (s.link.without fun c => c.lane.isSome)).bedCleared := by
  have hchans : ((((((((s.chans.set 0 k).set 1 l).set 2 m).set 3 n).set 0 Channel.idle).set 1 Channel.idle).set 2
      Channel.idle).set 3 Channel.idle)
      = (((s.chans.set 0 Channel.idle).set 1 Channel.idle).set 2 Channel.idle).set 3 Channel.idle := by
    ext n hn : 1
    interval_cases n <;> simp
  rw [clearBed_eq, Link.without_frame]
  exact congrArg (fun chans : Vector Channel 6 =>
    { s with link := (((s.link.drop .backA).drop .backB).drop .faceA).drop .faceB, frame := {}, chans := chans }) hchans

/-- The doses of the two phases booked and the plate HELD, as one change of its record. -/
theorem holdAborted_booked (s : State) (i : Slot) (back face : Nat) :
    ((s.modPlate i fun p => p.addDose .back back).modPlate i fun p => p.addDose .face face).holdAborted i
      = s.heldAborted i back face := by
  rw [State.holdAborted, State.holdAtStep_eq, offLane_modPlate, State.modPlate_modPlate, State.modPlate_modPlate]
  rfl

theorem holdAborted_modPlate (s : State) (h : i ≠ j) (f : Plate → Plate) :
    (s.modPlate j f).holdAborted i = (s.holdAborted i).modPlate j f := by
  simp only [State.holdAborted, State.holdAtStep_eq, offLane_modPlate]
  rw [State.modPlate_comm _ (Ne.symm h)]
  rfl

theorem holdAborted_booked_two (s : State) (h : i ≠ j) (f g : Plate → Plate) (back face : Nat) :
    (((((s.modPlate i fun p => p.addDose .back back).modPlate j f).modPlate i fun p => p.addDose .face face).modPlate j
      g).holdAborted i) = ((s.heldAborted i back face).modPlate j f).modPlate j g := by
  rw [holdAborted_modPlate _ h, State.modPlate_comm _ (Ne.symm h), holdAborted_modPlate _ h, holdAborted_booked]

theorem holdAborted_dropped (s : State) (i : Slot) (c : Chan) (k : Channel) :
    (s.dropped c k).holdAborted i = (s.holdAborted i).dropped c k := rfl

theorem frameAbortEffect_of_begun (h : s.frame.state ∈ [FrameState.backRun, .backEnd, .faceRun]) :
    frameAbortEffect s = (s.breakOffLoad, Reply.just .ok) := by
  simp only [List.mem_cons, List.not_mem_nil, or_false] at h
  rcases h with h | h | h <;> simp only [frameAbortEffect, h]

/-- The four channels of a load are broken off in two pairs. -/
theorem breakOffLoad_of_broken {u : State} {f g f' g' : Plate → Plate} (hp : s.frame.plates = i :: ob.toList)
    (h1 : s.Broken t .backA .backB (some i) ob f g) (h2 : t.Broken u .faceA .faceB (some i) ob f' g')
    (ht : (s.abortRun .backA).abortRun .backB = t) (hu : (t.abortRun .faceA).abortRun .faceB = u) :
    s.breakOffLoad = ((ob.toList.foldl State.holdAborted
      (((((s.modPlate i f).modPlate? ob g).modPlate i f').modPlate? ob g').holdAborted i)).withLink
        (s.link.without fun c => c.lane.isSome)).bedCleared := by
  obtain ⟨k, l, h1⟩ := h1
  obtain ⟨m, n, h2⟩ := h2
  have hb : s.breakOffLoad = ((i :: ob.toList).foldl State.holdAborted ((((s.abortRun .backA).abortRun .backB).abortRun
    .faceA).abortRun .faceB)).clearBed := by rw [State.breakOffLoad, hp]; rfl
  have hfold (v : State) (c : Chan) (k : Channel) :
      ob.toList.foldl State.holdAborted (v.dropped c k) = (ob.toList.foldl State.holdAborted v).dropped c k := by
    cases ob <;> rfl
  rw [hb, ht, hu, h2, h1]
  simp only [modPlateOpt_dropped, List.foldl_cons, holdAborted_dropped, hfold, clearBed_dropped]
  cases ob <;> rfl

/-- Settles O41, by the plates on the bed. -/
theorem frameAbortBreaksOffAnExposure : Obligations.FrameAbortBreaksOffAnExposure := by
  intro s t hg hs hl hp hd rfl i ha
  rw [exec_frameAbort hg, frameAbortEffect_of_begun hs]
  have hd2 : DosesOk ((s.abortRun .backA).abortRun .backB) := (hd.abortRun _).abortRun _
  have alone (ob : Option Slot) (hb : s.frame.laneB.slot = ob) (hw : s.frame.isWide = false)
      (hpl : s.frame.plates = i :: ob.toList) := by
    have lone {c : Chan} {l : LaneId} (hc : c.lane = some l) := hl.alone_lane hp hc hw
    have h1 := break_alone (lone (c := .backA) rfl) (lone (c := .backB) rfl) (by decide) hd
    have fA := (lone (c := .faceA) rfl).congr (h1.chan (by decide) (by decide)) (h1.quiet _)
    have fB := (lone (c := .faceB) rfl).congr (h1.chan (by decide) (by decide)) (h1.quiet _)
    have h2 := break_alone fA fB (by decide) hd2
    rw [owed_congr (h1.chan (by decide) (by decide)), owed_congr (h1.chan (by decide) (by decide))] at h2
    simp only [FrameUnit.lane, ha, hb] at h1 h2
    exact breakOffLoad_of_broken hpl h1 h2 rfl rfl
  refine ⟨fun hb => ?_, fun hb => ?_, fun j hb hij => ?_⟩
  · have hw : s.frame.isWide = false := by simp [FrameUnit.isWide, ha, hb]
    rw [alone none hb hw (FrameUnit.plates_one ha (.inr hb))]
    simp only [State.modPlate?, Option.toList, List.foldl_nil, Chan.phase, holdAborted_booked]
    rfl
  · have hw : s.frame.isWide = true := by simp [FrameUnit.isWide, ha, hb]
    have h1 := break_paired (hl.paired hp (a := .backA) (b := .backB) rfl rfl hw rfl rfl ha) hd id
    have h2 := break_paired ((hl.paired hp (a := .faceA) (b := .faceB) rfl rfl hw rfl rfl ha).congr
      (h1.chan (by decide) (by decide)) (h1.chan (by decide) (by decide)) h1.quiet) hd2 id
    rw [owed_congr (h1.chan (by decide) (by decide)), owed_congr (h1.chan (by decide) (by decide))] at h2
    rw [breakOffLoad_of_broken (FrameUnit.plates_one ha (.inl hb)) h1 h2 rfl rfl]
    simp only [State.modPlate?, Option.toList, List.foldl_nil, Chan.phase, holdAborted_booked]
    rfl
  · have hw : s.frame.isWide = false := by simp [FrameUnit.isWide, ha, hb, hij]
    rw [alone (some j) hb hw (FrameUnit.plates_two ha hb hij)]
    simp only [State.modPlate?, Option.toList, List.foldl_cons, List.foldl_nil, Chan.phase, holdAborted_booked_two _ hij,
      holdAborted_booked]
    rfl

/-! ### FINISH_UNLOAD -/

theorem finishUnloadEffect_of_slot (hs : s.finisher.state = .ended) (hi : s.finisher.slot = some i) :
    finishUnloadEffect s
      = ((s.settleFinished i).clearFinisher, ⟨.ok, [byte1 ((s.settleFinished i).plate i).state.code]⟩) := by
  simp [finishUnloadEffect, hs, hi]

/-- The plate is HELD at the end of a run (R10, R159). -/
theorem finishUnloadEffect_of_held {reason : HoldReason} {from_ : HeldFrom} (hs : s.finisher.state = .ended)
    (hi : s.finisher.slot = some i) (h : s.settleFinished i = s.holdAtStep i reason from_ .D) :
    finishUnloadEffect s = ((s.holdAtStep i reason from_ .D).clearFinisher, ⟨.ok, [10]⟩) := by
  rw [finishUnloadEffect_of_slot hs hi, h, holdAtStep_plate_self]
  rfl

theorem finishUnloadEffect_of_done (hs : s.finisher.state = .ended) (hi : s.finisher.slot = some i)
    (h : s.settleFinished i = (s.modPlate i fun p => p.inState .done).post .P ⟨.plateDone, some i, 0⟩) :
    finishUnloadEffect s = (((s.modPlate i fun p => p.inState .done).post .P ⟨.plateDone, some i, 0⟩).clearFinisher,
      ⟨.ok, [9]⟩) := by
  have hst : (((s.modPlate i fun p => p.inState .done).post .P ⟨.plateDone, some i, 0⟩).plate i).state = .done :=
    congrArg Plate.state (State.plate_modPlate_self s i fun p => p.inState .done)
  rw [finishUnloadEffect_of_slot hs hi, h, hst]
  rfl

/-! ### FINISH_ABORT -/

theorem finishAbortEffect_of_loaded (hs : s.finisher.state = .loaded) (hi : s.finisher.slot = some i) :
    finishAbortEffect s = ({ s.undoFinish i with finisher := {} }, Reply.just .ok) := by
  simp only [finishAbortEffect, hs, hi]

theorem finishAbortEffect_of_running (hs : s.finisher.state = .running) (hi : s.finisher.slot = some i) :
    finishAbortEffect s = ((s.breakOffFinish i).clearFinisher, Reply.just .ok) := by
  simp only [finishAbortEffect, hs, hi]

theorem finishAbortEffect_of_over (hs : s.finisher.state = .empty ∨ s.finisher.state = .ended) :
    finishAbortEffect s = refuse .badState s := by
  rcases hs with hs | hs <;> simp only [finishAbortEffect, hs]

theorem tellReady_clearPosition (s : State) (b : Bool) (p : Port) (n : Nat) :
    { s.tellReady b p n with finisher := {} } = State.tellReady { s with finisher := {} } b p n := by
  cases b <;> rfl

theorem undoFinish_of_free (h : (s.plate i).holdPending = false) :
    { s.undoFinish i with finisher := {} } = State.tellReady
      { s.modPlate i fun p => { p with state := .dried } with finisherQ := i :: s.finisherQ, finisher := {} }
      s.finisherQ.isEmpty .D 2 := by
  rw [State.undoFinish, if_neg (by simp [h])]
  exact tellReady_clearPosition ((s.modPlate i fun p => p.inState .dried).setWaitList .finisher (i :: s.finisherQ)) ..

theorem clearFinisher_dropped (s : State) (k l : Channel) :
    ((s.dropped .detack k).dropped .post l).clearFinisher
      = (s.withLink (s.link.without fun c => c.lane.isNone)).clearFinisher := by
  have hchans : (((s.chans.set 4 k).set 5 l).set 4 Channel.idle).set 5 Channel.idle
      = (s.chans.set 4 Channel.idle).set 5 Channel.idle := by
    ext n hn : 1
    interval_cases n <;> simp
  rw [Link.without_finish]
  exact congrArg (fun chans : Vector Channel 6 =>
    { s with link := (s.link.drop .detack).drop .post, finisher := {}, chans := chans }) hchans

theorem holdAtStep_dropped (s : State) (i : Slot) (reason : HoldReason) (from_ : HeldFrom) (p : Port) (c : Chan)
    (k : Channel) : (s.dropped c k).holdAtStep i reason from_ p = (s.holdAtStep i reason from_ p).dropped c k := rfl

theorem breakOffFinish_eq (hi : s.finisher.slot = some i) (hl : LightOk s) (hp : PhasesOk s) (hd : DosesOk s) :
    (s.breakOffFinish i).clearFinisher = ((State.tellHeld (s.modPlate i fun p =>
      { p.heldFor .aborted .dried with
        detackDelivered := min (2 ^ 48 - 1) (p.detackDelivered + s.owed .detack)
        postDelivered := min (2 ^ 48 - 1) (p.postDelivered + s.owed .post) }) i 1 .D).withLink
          (s.link.without fun c => c.lane.isNone)).clearFinisher := by
  obtain ⟨k, l, hb⟩ := break_alone (hl.alone_position hp (c := .detack) rfl) (hl.alone_position hp (c := .post) rfl)
    (by decide) hd
  rw [hi] at hb
  rw [State.breakOffFinish, hb, holdAtStep_dropped, holdAtStep_dropped, clearFinisher_dropped]
  simp only [State.modPlate?, State.holdAtStep_eq, State.modPlate_modPlate]
  rfl

/-- Settles O49, by the state of the position and the marks of its run. -/
theorem finishEndsEmptyThePosition : Obligations.FinishEndsEmptyThePosition := by
  refine ⟨fun s hg => ⟨fun hs => ?_, ?_⟩, fun s hg => ⟨fun hs => ?_, fun i hi => ⟨fun hs hp => ?_, fun hs hp => ?_,
    fun hs hl hp hd => ?_⟩⟩⟩
  · rw [exec_finishUnload hg, finishUnloadEffect, if_pos (by simpa using hs)]; rfl
  · rintro i _ hs hi rfl
    rw [exec_finishUnload hg]
    refine ⟨fun hf => ?_, fun hf ht => ?_, fun hf ht hp => ?_, fun hf ht hp => ?_⟩
    · rw [finishUnloadEffect_of_held hs hi (if_pos hf)]; rfl
    · rw [finishUnloadEffect_of_held hs hi (by simp only [State.settleFinished, hf, ht]; rfl)]; rfl
    · rw [finishUnloadEffect_of_held hs hi (by simp only [State.settleFinished, hf, ht, hp]; rfl)]; rfl
    · rw [finishUnloadEffect_of_done hs hi (by simp only [State.settleFinished, hf, ht, hp]; rfl)]; rfl
  all_goals rw [exec_finishAbort hg]
  · rw [finishAbortEffect_of_over hs]; rfl
  · rw [finishAbortEffect_of_loaded hs hi, State.undoFinish, if_pos hp]; rfl
  · rw [finishAbortEffect_of_loaded hs hi, undoFinish_of_free hp]; rfl
  · rw [finishAbortEffect_of_running hs hi, breakOffFinish_eq hi hl hp hd]; rfl

end

end Sys2Proof.Machine
end

-- ==== Sys2Proof/Proofs/U ====
section
/-! The timers (R95, R96, R117, R125, R144, R149): a warm timer, a drawer's timer and an overdue timer count and expire. -/

namespace Sys2Proof.Machine

section
variable {s : State} {b : Bank} {d : DrawerIx} {i : Slot}

theorem exec_warmTimerExpiry (b : Bank) (h : s.rstLow = false) : exec (.warmTimerExpiry b) s = .next (s.warmExpiry b) :=
  congrArg Host.Outcome.next (if_neg (by simp [h]))

theorem exec_dryTimerExpiry (d : DrawerIx) (h : s.rstLow = false) : exec (.dryTimerExpiry d) s = .next (s.dryExpiry d) :=
  congrArg Host.Outcome.next (if_neg (by simp [h]))

theorem exec_overdueTimerExpiry (i : Slot) (h : s.rstLow = false) :
    exec (.overdueTimerExpiry i) s = .next (s.overdueExpiry i) :=
  congrArg Host.Outcome.next (if_neg (by simp [h]))

theorem exec_timerDecrement (m : Timer) (h : s.rstLow = false) : exec (.timerDecrement m) s = .next (s.decrement m) :=
  congrArg Host.Outcome.next (if_neg (by simp [h]))

/-! ### The warm timer -/

/-- A PAUSED channel runs again with a fresh interval (R117). -/
def Channel.resumed (k : Channel) (ts : Nat) : Channel :=
  if k.state = .paused then { k with state := .running, interval := some ts } else k

theorem modChan_eq_mapChans (s : State) (c : Chan) (f : Channel → Channel) :
    s.modChan c f = s.mapChans fun e k => if e = c then f k else k := by
  have hchans : s.chans.set c.index (f s.chans[c.index])
      = Vector.ofFn fun n => if chanAt n = c then f s.chans[n] else s.chans[n] := by
    ext n hn : 1
    cases c <;> interval_cases n <;> simp [chanAt, Chan.index]
  simp only [State.modChan, State.mapChans, hchans]

theorem mapChans_mapChans (s : State) (f g : Chan → Channel → Channel) :
    (s.mapChans f).mapChans g = s.mapChans fun c k => g c (f c k) := by
  simp [State.mapChans]

theorem resumeChan_eq (s : State) (c : Chan) : s.resumeChan c = s.modChan c fun k => k.resumed s.intervalNow := by
  unfold State.resumeChan
  cases h : (s.chan c).state == .paused with
  | true =>
    have hk : s.chans[c.index].resumed s.intervalNow
        = { s.chans[c.index] with state := .running, interval := some s.intervalNow } :=
      if_pos (by simpa [State.chan] using h)
    simp only [State.modChan, hk, if_true]
  | false =>
    have hk : s.chans[c.index].resumed s.intervalNow = s.chans[c.index] := if_neg (by simpa [State.chan] using h)
    simp only [State.modChan, hk]
    simp

/-- The PAUSED channels of a bank resume (R117). -/
theorem resumeChans_eq (s : State) (b : Bank) :
    b.chans.foldl State.resumeChan s = s.mapChans fun c k => if c.bank = b then k.resumed s.intervalNow else k := by
  have hchans (t : State) (c e : Chan) : [c, e].foldl State.resumeChan t = t.mapChans fun x k =>
      if x = e then (if x = c then k.resumed t.intervalNow else k).resumed t.intervalNow
      else if x = c then k.resumed t.intervalNow else k := by
    rw [List.foldl_cons, List.foldl_cons, List.foldl_nil, resumeChan_eq (t.resumeChan c), resumeChan_eq t,
      modChan_eq_mapChans, modChan_eq_mapChans, mapChans_mapChans]
    rfl
  have hone (t : State) (c : Chan) : [c].foldl State.resumeChan t = t.mapChans fun x k =>
      if x = c then k.resumed t.intervalNow else k := by
    rw [List.foldl_cons, List.foldl_nil, resumeChan_eq, modChan_eq_mapChans]
  cases b
  case back => exact (hchans s ..).trans (congrArg _ (funext fun c => by cases c <;> rfl))
  case face => exact (hchans s ..).trans (congrArg _ (funext fun c => by cases c <;> rfl))
  case detack => exact (hone s _).trans (congrArg _ (funext fun c => by cases c <;> rfl))
  case post => exact (hone s _).trans (congrArg _ (funext fun c => by cases c <;> rfl))

theorem warmExpiry_of_due (hs : (s.bank b).state = .warming) (hw : (s.bank b).warm ≤ 1) :
    s.warmExpiry b = s.bankBecomesReady b := if_pos (by simp [hs, hw])

theorem warmExpiry_of_not (h : ¬ ((s.bank b).state = .warming ∧ (s.bank b).warm ≤ 1)) : s.warmExpiry b = s :=
  if_neg (by simpa using h)

theorem bankBecomesReady_eq (s : State) (b : Bank) :
    s.bankBecomesReady b = ((s.modBank b fun k => ⟨.ready, 0, k.ref⟩).post (if b = .back ∨ b = .face then .E else .D)
      ⟨.bankReady, none, b.index⟩).mapChans fun c k =>
        if c.bank = b ∧ k.state = .paused then
          { k with state := .running, interval := some (10 * s.item .sampleDiv) }
        else k := by
  have hport : (if b = .back ∨ b = .face then Port.E else .D) = b.owner := by cases b <;> rfl
  rw [hport, State.bankBecomesReady, resumeChans_eq]
  refine congrArg _ (funext fun c => funext fun k => ?_)
  by_cases hc : c.bank = b
  · simp only [hc, if_true, true_and]; rfl
  · simp only [hc, if_false, false_and]

theorem decrement_warm_of_counting (hs : (s.bank b).state = .warming) (hw : 1 < (s.bank b).warm) :
    s.decrement (.warm b) = s.modBank b fun k => { k with warm := k.warm - 1 } := if_pos ⟨hs, hw⟩

theorem decrement_warm_of_not (h : ¬ ((s.bank b).state = .warming ∧ 1 < (s.bank b).warm)) :
    s.decrement (.warm b) = s := if_neg h

/-! ### A drawer's timer -/

theorem dryExpiry_of_due (hs : (s.drawer d).state = .drying) (hi : (s.drawer d).slot = some i)
    (hr : (s.drawer d).remaining ≤ 1) :
    s.dryExpiry d = (((s.modDrawer d fun k => ⟨.dry, k.slot, 0⟩).modPlate i fun p => { p with dryRemaining := 0 }
      ).post .D ⟨.drawerDry, some i, d.val⟩).endDrying i := by
  simp only [State.dryExpiry, hs, hi, if_pos hr]

theorem dryExpiry_of_not (h : ¬ ((s.drawer d).state = .drying ∧ (s.drawer d).remaining ≤ 1)) : s.dryExpiry d = s := by
  unfold State.dryExpiry
  split
  next hs _ => exact if_neg fun hr => h ⟨hs, hr⟩
  · rfl

theorem decrement_drawer_of_counting (hs : (s.drawer d).state = .drying) (hr : 1 < (s.drawer d).remaining) :
    s.decrement (.drawer d) = s.modDrawer d fun k => { k with remaining := k.remaining - 1 } := if_pos ⟨hs, hr⟩

theorem decrement_drawer_of_not (h : ¬ ((s.drawer d).state = .drying ∧ 1 < (s.drawer d).remaining)) :
    s.decrement (.drawer d) = s := if_neg h

/-! ### An overdue timer -/

theorem overdueExpiry_of_none (h : ∀ e ∈ s.transit, e.runsOut i = false) : s.overdueExpiry i = s :=
  if_neg (by simpa using h)

theorem decrement_overdue_of_none (h : ∀ e ∈ s.transit, e.tick i = e) : s.decrement (.overdue i) = s := by
  have hm : s.transit.map (fun e => e.tick i) = s.transit := (List.map_congr_left h).trans (List.map_id _)
  simp only [State.decrement, hm]

theorem runsOut_of_ne {e : TransitEntry} (h : e.slot ≠ i) : e.runsOut i = false := by
  simp [TransitEntry.runsOut, h]

theorem tick_of_ne {e : TransitEntry} (h : e.slot ≠ i) : e.tick i = e := if_neg fun hx => h hx.1

/-- One entry of the transit list changes, and the others stay. -/
theorem map_of_split {g : TransitEntry → TransitEntry} {e : TransitEntry} {before after : List TransitEntry}
    (h : ∀ x ∈ before ++ after, g x = x) : (before ++ e :: after).map g = before ++ g e :: after := by
  have hkeep : ∀ l : List TransitEntry, (∀ x ∈ l, g x = x) → l.map g = l := fun l hl =>
    (List.map_congr_left hl).trans (List.map_id _)
  rw [List.map_append, List.map_cons, hkeep before fun x hx => h x (List.mem_append_left _ hx),
    hkeep after fun x hx => h x (List.mem_append_right _ hx)]

/-- What holds of the entry of the plate and of every other entry holds of all. -/
theorem forall_transit_of_split {P : TransitEntry → Prop} {e : TransitEntry} {before after : List TransitEntry}
    (ht : s.transit = before ++ e :: after) (hn : ∀ x ∈ before ++ after, x.slot ≠ i) (he : P e)
    (h : ∀ x : TransitEntry, x.slot ≠ i → P x) : ∀ x ∈ s.transit, P x := by
  intro x hx
  rw [ht, List.mem_append, List.mem_cons] at hx
  rcases hx with hx | rfl | hx
  · exact h x (hn x (List.mem_append_left _ hx))
  · exact he
  · exact h x (hn x (List.mem_append_right _ hx))

theorem overdueExpiry_of_due {n : Nat} {before after : List TransitEntry}
    (ht : s.transit = before ++ ⟨i, n, false⟩ :: after) (hn : ∀ e ∈ before ++ after, e.slot ≠ i) (h : n ≤ 1) :
    s.overdueExpiry i = (State.modPlate { s with transit := before ++ ⟨i, 0, true⟩ :: after } i fun p =>
      p.mark .overdue).post .P ⟨.overdue, some i, 0⟩ := by
  have hdue : (⟨i, n, false⟩ : TransitEntry).runsOut i = true := by simp [TransitEntry.runsOut, h]
  have hmap : s.transit.map (fun e => if e.runsOut i then { e with remaining := 0, expired := true } else e)
      = before ++ ⟨i, 0, true⟩ :: after := by
    rw [ht, map_of_split fun x hx => by simp [runsOut_of_ne (hn x hx)], if_pos hdue]
  have hany : s.transit.any (fun e => e.runsOut i) = true := List.any_eq_true.mpr ⟨_, by simp [ht], hdue⟩
  rw [State.overdueExpiry, if_pos hany, hmap]

theorem decrement_overdue_of_counting {n : Nat} {before after : List TransitEntry}
    (ht : s.transit = before ++ ⟨i, n, false⟩ :: after) (hn : ∀ e ∈ before ++ after, e.slot ≠ i) (h : 1 < n) :
    s.decrement (.overdue i) = { s with transit := before ++ ⟨i, n - 1, false⟩ :: after } := by
  have htick : (⟨i, n, false⟩ : TransitEntry).tick i = ⟨i, n - 1, false⟩ := if_pos ⟨rfl, rfl, h⟩
  rw [State.decrement, ht, map_of_split fun x hx => tick_of_ne (hn x hx), htick]

/-- Settles O50, timer by timer. -/
theorem timersCountAndExpire : Obligations.TimersCountAndExpire := by
  refine fun s hr => ⟨fun b hb => ⟨fun hw => ?_, fun hw => ?_, fun hw => ?_, fun hw => ?_⟩,
    fun d i hd hi => ⟨?_, fun hn => ?_, fun hn => ?_, fun hn => ?_⟩, fun b hb => ⟨?_, ?_⟩, fun d hd => ⟨?_, ?_⟩,
    fun i n before after ht hn => ⟨?_, ?_⟩, fun i hn => ⟨?_, ?_⟩,
    fun i n before after ht hn => ⟨fun hx => ?_, fun hx => ?_, fun hx => ?_, fun hx => ?_⟩⟩
  · rw [exec_warmTimerExpiry b hr, warmExpiry_of_due hb hw, bankBecomesReady_eq]
  · rw [exec_timerDecrement _ hr, decrement_warm_of_counting hb hw]
  · rw [exec_timerDecrement _ hr, decrement_warm_of_not (by omega)]
  · rw [exec_warmTimerExpiry b hr, warmExpiry_of_not (by omega)]
  · rintro hn _ rfl
    rw [exec_dryTimerExpiry d hr, dryExpiry_of_due hd hi hn, State.endDrying]
    refine ⟨fun hp => ?_, fun hp => ?_⟩
    · rw [if_pos (by simpa using hp)]; rfl
    · rw [if_neg (by simpa using hp)]; rfl
  · rw [exec_timerDecrement _ hr, decrement_drawer_of_counting hd hn]
  · rw [exec_timerDecrement _ hr, decrement_drawer_of_not (by omega)]
  · rw [exec_dryTimerExpiry d hr, dryExpiry_of_not (by omega)]
  · rw [exec_warmTimerExpiry b hr, warmExpiry_of_not fun h => hb h.1]
  · rw [exec_timerDecrement _ hr, decrement_warm_of_not fun h => hb h.1]
  · rw [exec_dryTimerExpiry d hr, dryExpiry_of_not fun h => hd h.1]
  · rw [exec_timerDecrement _ hr, decrement_drawer_of_not fun h => hd h.1]
  · rw [exec_overdueTimerExpiry i hr, overdueExpiry_of_none (forall_transit_of_split ht hn
      (by simp [TransitEntry.runsOut]) fun _ => runsOut_of_ne)]
  · rw [exec_timerDecrement _ hr, decrement_overdue_of_none (forall_transit_of_split ht hn
      (by simp [TransitEntry.tick]) fun _ => tick_of_ne)]
  · rw [exec_overdueTimerExpiry i hr, overdueExpiry_of_none fun e he => runsOut_of_ne (hn e he)]
  · rw [exec_timerDecrement _ hr, decrement_overdue_of_none fun e he => tick_of_ne (hn e he)]
  · rw [exec_overdueTimerExpiry i hr, overdueExpiry_of_due ht hn hx]; rfl
  · rw [exec_timerDecrement _ hr, decrement_overdue_of_counting ht hn hx]
  · rw [exec_timerDecrement _ hr, decrement_overdue_of_none (forall_transit_of_split ht hn
      (by simp [TransitEntry.tick]; omega) fun _ => tick_of_ne)]
  · rw [exec_overdueTimerExpiry i hr, overdueExpiry_of_none (forall_transit_of_split ht hn
      (by simp [TransitEntry.runsOut]; omega) fun _ => runsOut_of_ne)]

end

end Sys2Proof.Machine
end

-- ==== Sys2Proof/Proofs/V ====
section
/-! The figures of the Process Calculator (chapter 3): each formula of the model against the manual's. -/

namespace Sys2Proof.Machine

section
variable {s : State} {i : Slot}

/-! ### Rounding (0.6.5) -/

theorem roundDiv_eq_iff {n d x : Nat} (hd : 0 < d) :
    roundDiv n d = x ↔ (2 * x - 1) * d ≤ 2 * n ∧ 2 * n < (2 * x + 1) * d := by
  rw [roundDiv, Nat.div_eq_iff (by omega)]
  cases x with
  | zero => omega
  | succ x =>
    have h1 : (2 * (x + 1) - 1) * d = 2 * (x * d) + d := by
      rw [show 2 * (x + 1) - 1 = 2 * x + 1 by omega]; ring
    have h2 : (2 * (x + 1) + 1) * d = 2 * (x * d) + 3 * d := by ring
    have h3 : (x + 1) * (2 * d) = 2 * (x * d) + 2 * d := by ring
    omega

theorem ceilDiv_le_iff {n d x : Nat} (hd : 0 < d) : ceilDiv n d ≤ x ↔ n ≤ x * d := by
  rw [ceilDiv, Nat.div_le_iff_le_mul_add_pred hd, Nat.mul_comm d x]
  omega

/-! ### The curve (R40, R41) -/

theorem interpolate_of_split {f : Nat} {a b : CurvePoint} {pre rest : List CurvePoint}
    (h : (pre ++ a :: b :: rest).Pairwise fun x y => x.floor < y.floor) (ha : pre = [] ∨ a.floor < f)
    (hb : f ≤ b.floor) :
    interpolate f (pre ++ a :: b :: rest)
      = roundDiv (a.dose * (b.floor - a.floor) + (f - a.floor) * (b.dose - a.dose)) (b.floor - a.floor) := by
  induction pre with
  | nil => exact if_pos hb
  | cons x pre ih =>
    have haf : a.floor < f := ha.resolve_left (by simp)
    obtain ⟨-, hrest⟩ := List.pairwise_cons.mp h
    refine Eq.trans ?_ (ih hrest (.inr haf))
    cases pre with
    | nil => exact if_neg (by omega)
    | cons y pre =>
      have hy : y.floor < a.floor := (List.pairwise_cons.mp hrest).1 a (by simp)
      exact if_neg (by omega)

theorem floor_mono {curve : Vector CurvePoint 6} (h : curve.toList.Pairwise fun a b => a.floor < b.floor) {j k : Nat}
    (hk : k < 6) (hjk : j ≤ k) : curve[j].floor ≤ curve[k].floor := by
  rcases Nat.lt_or_eq_of_le hjk with hlt | rfl
  · have := List.pairwise_iff_getElem.mp h j k (by simp; omega) (by simpa) hlt
    simp only [Vector.getElem_toList] at this
    exact this.le
  · exact le_rfl

theorem backTarget_below {curve : Vector CurvePoint 6} {f : Nat} (h : f < curve[0].floor) :
    backTarget curve f = curve[0].dose := if_pos (by simpa [floorLow] using h)

theorem backTarget_above {curve : Vector CurvePoint 6} {f : Nat} (h0 : curve[0].floor ≤ f) (h : curve[5].floor < f) :
    backTarget curve f = curve[5].dose := by
  rw [backTarget, if_neg (by simpa [floorLow] using h0), if_pos (by simpa [floorHigh] using h)]

/-- The back target lies on the lowest segment whose upper end is at or above the floor. -/
theorem backTarget_on_segment {curve : Vector CurvePoint 6} {f k : Nat} (hk : k < 5)
    (hp : curve.toList.Pairwise fun a b => a.floor < b.floor) (hlo : curve[k].floor ≤ f) (hhi : f ≤ curve[k + 1].floor)
    (h : k = 0 ∨ curve[k].floor < f) :
    backTarget curve f = roundDiv (curve[k].dose * (curve[k + 1].floor - curve[k].floor)
      + (f - curve[k].floor) * (curve[k + 1].dose - curve[k].dose)) (curve[k + 1].floor - curve[k].floor) := by
  have hsplit : curve.toList = curve.toList.take k ++ curve[k] :: curve[k + 1] :: curve.toList.drop (k + 2) := by
    have h1 : curve.toList.drop k = curve[k] :: curve.toList.drop (k + 1) := by
      rw [List.drop_eq_getElem_cons (by simp; omega), Vector.getElem_toList]
    have h2 : curve.toList.drop (k + 1) = curve[k + 1] :: curve.toList.drop (k + 2) := by
      rw [List.drop_eq_getElem_cons (by simp; omega), Vector.getElem_toList]
    rw [← h2, ← h1, List.take_append_drop]
  have hlow : ¬ floorLow curve f = true := by
    simpa [floorLow] using (floor_mono hp (by omega) (Nat.zero_le k)).trans hlo
  have hhigh : ¬ floorHigh curve f = true := by
    simpa [floorHigh] using hhi.trans (floor_mono hp (by decide) (show k + 1 ≤ 5 by omega))
  rw [backTarget, if_neg hlow, if_neg hhigh, hsplit]
  rw [hsplit] at hp
  exact interpolate_of_split hp (h.imp_left fun h => by simp [h]) hhi

/-! ### Targets, needs and estimates (R43 to R47) -/

theorem faceDoseTrimmed_eq {dose : Nat} {trim : Int} (h : -20 ≤ trim) :
    (faceDoseTrimmed dose trim : Int) = (2 * ((dose : Int) * (100 + trim)) + 100) / 200 := by
  obtain ⟨t, ht⟩ := Int.eq_ofNat_of_zero_le (show 0 ≤ 100 + trim by omega)
  simp [faceDoseTrimmed, roundDiv, ht]

theorem phaseNeed_eq (target delivered : Nat) : phaseNeed target delivered = 100000 * (target : Int) - delivered := by
  rw [phaseNeed, Int.mul_comm]

theorem estimate_of_reached (r : Nat) {need : Int} (h : need ≤ 0) : estimate (some r) need = some 0 := if_pos h

theorem estimate_of_needed {r : Nat} {need : Int} (hr : 0 < r) (h : 0 < need) :
    ∃ e : Nat, estimate (some r) need = some e ∧ need ≤ (e : Int) * r * 1000
      ∧ ((e : Int) - 1) * r * 1000 < need := by
  obtain ⟨n, rfl⟩ := Int.eq_ofNat_of_zero_le h.le
  have hpos : 0 < r * 1000 := by omega
  have hle := (ceilDiv_le_iff (x := ceilDiv n (r * 1000)) (n := n) hpos).mp le_rfl
  refine ⟨ceilDiv n (r * 1000), if_neg (by omega), ?_, ?_⟩
  · rw [Int.mul_assoc]; exact_mod_cast hle
  · cases he : ceilDiv n (r * 1000) with
    | zero => simp [he] at hle; omega
    | succ x =>
      have hlt : ¬ n ≤ x * (r * 1000) := fun hn => by
        have := (ceilDiv_le_iff hpos).mpr hn
        omega
      rw [Int.mul_assoc]
      push_cast
      rw [Int.add_sub_cancel]
      exact_mod_cast Nat.lt_of_not_le hlt

theorem totalEstimate_eq (a b : Option Nat) : totalEstimate a b = a.bind fun x => b.map fun y => x + y := by
  cases a <;> cases b <;> rfl

theorem compatible_iff (tol a b : Nat) :
    compatible tol (some a) (some b) = true ↔ (max a b - min a b) * 100 ≤ tol * max a b := by
  have h : absDiff a b = max a b - min a b := by unfold absDiff; omega
  simp [compatible, h]

theorem compatible_none (tol : Nat) (a : Option Nat) : compatible tol none a = true ∧ compatible tol a none = true := by
  cases a <;> exact ⟨rfl, rfl⟩

/-- No phase within its range takes more than 6,553,500 seconds (R45). -/
theorem estimate_le {ref : Option Nat} {target delivered : Nat} (hr : ∀ r ∈ ref, 1 ≤ r) (ht : target ≤ 65535) :
    ∀ e ∈ estimate ref (phaseNeed target delivered), e ≤ 6553500 := by
  intro e he
  cases ref with
  | none => cases he
  | some r =>
    have hr1 : 1 ≤ r := hr r rfl
    by_cases hn : phaseNeed target delivered ≤ 0
    · rw [estimate_of_reached r hn] at he
      cases he; omega
    · obtain rfl : ceilDiv (phaseNeed target delivered).toNat (r * 1000) = e :=
        Option.some.inj ((if_neg hn).symm.trans he)
      have hneed : (phaseNeed target delivered).toNat ≤ 6553500 * 1000 := by
        rw [phaseNeed_eq] at hn ⊢; omega
      exact (ceilDiv_le_iff (by omega)).mpr (hneed.trans (by omega))

theorem backEstimate_eq (s : State) (i : Slot) : s.backEstimate i
    = estimate (s.bank .back).ref (100000 * ((s.plate i).backTarget : Int) - (s.plate i).backDelivered) := by
  rw [State.backEstimate, phaseNeed_eq]

theorem faceEstimate_eq (s : State) (i : Slot) : s.faceEstimate i
    = estimate (s.bank .face).ref (100000 * ((s.plate i).faceTarget : Int) - (s.plate i).faceDelivered) := by
  rw [State.faceEstimate, phaseNeed_eq]

theorem plateEstimate_le {m n : Nat} (hb : ∀ e ∈ s.backEstimate i, e ≤ m) (hf : ∀ e ∈ s.faceEstimate i, e ≤ n) :
    ∀ e ∈ s.plateEstimate i, e ≤ m + n := by
  intro e he
  rw [State.plateEstimate, totalEstimate_eq] at he
  obtain ⟨x, hx, he⟩ := Option.bind_eq_some_iff.mp he
  obtain ⟨y, hy, rfl⟩ := Option.map_eq_some_iff.mp he
  exact Nat.add_le_add (hb x hx) (hf y hy)

/-! ### Mass and dry time (R57, R61) -/

theorem clampTo_eq {lo hi : Nat} (h : lo ≤ hi) (v : Nat) : clampTo lo hi v = max lo (min hi v) := by
  unfold clampTo
  split
  · omega
  · split <;> omega

theorem removedMass_eq (w l n relief density : Nat) : removedMass w l n relief density
    = (2 * (w * l / 100 * n * (10 * relief) * density) + 100000000) / 200000000 := by
  rw [Nat.mul_comm 10 relief]
  rfl

theorem drySeconds_eq (base slope thickness : Nat) : drySeconds base slope thickness
    = 60 * max 10 (min 480 (base + (thickness * slope + 99) / 100)) := by
  rw [drySeconds, clampTo_eq (by decide), Nat.mul_comm]
  rfl

/-- Settles O35, formula by formula. -/
theorem theCalculatorFollowsItsFormulas : Obligations.TheCalculatorFollowsItsFormulas := by
  refine ⟨fun _ _ _ => roundDiv_eq_iff, fun _ _ _ => ceilDiv_le_iff, fun _ _ => backTarget_below,
    fun _ _ => backTarget_above, fun _ _ k hf _ hlo hhi h => backTarget_on_segment k.isLt hf hlo hhi h,
    fun _ _ h _ => faceDoseTrimmed_eq h, phaseNeed_eq, fun _ => rfl, fun r _ => estimate_of_reached r,
    fun _ _ => estimate_of_needed, totalEstimate_eq, compatible_iff, compatible_none, fun _ _ => rfl, removedMass_eq,
    drySeconds_eq, backEstimate_eq, faceEstimate_eq, fun _ _ => totalEstimate_eq .., fun s i hp hb => ?_⟩
  obtain ⟨hback, hface⟩ := (hp i).targets
  have hbe : ∀ e ∈ s.backEstimate i, e ≤ 6553500 := estimate_le (fun r hr => ((hb .back).ref r hr).1) hback
  have hfe : ∀ e ∈ s.faceEstimate i, e ≤ 6553500 := estimate_le (fun r hr => ((hb .face).ref r hr).1) hface
  exact ⟨hbe, hfe, plateEstimate_le hbe hfe⟩

end

end Sys2Proof.Machine
end

-- ==== Sys2Proof/Proofs/W ====
section
/-! STAGE_LOT (R2, R39 to R43, R57, R61, R63, R65, R67 to R70): its checks, its copies, its slots and its queue. -/

namespace Sys2Proof.Machine

section
variable {s t : State} {i : Slot} {slots : List Slot}

/-! ### The slots (R69) -/

/-- The lowest-numbered FREE slots, in ascending order, are the first of the FREE slots. -/
theorem take_freeSlots (hsort : slots.Pairwise fun i j => i < j) (hfree : ∀ i ∈ slots, (s.plate i).state = .free)
    (hlow : ∀ i j, (s.plate i).state = .free → i ∉ slots → j ∈ slots → j < i) :
    s.freeSlots.take slots.length = slots := by
  have hf : s.freeSlots.Pairwise fun i j => i < j := (List.sortedLT_finRange 64).pairwise.filter _
  have happ : (slots ++ s.freeSlots.filter (fun i => decide (i ∉ slots))).Pairwise fun i j => i < j := by
    refine List.pairwise_append.mpr ⟨hsort, hf.filter _, fun j hj i hi => ?_⟩
    obtain ⟨hi, hni⟩ := List.mem_filter.mp hi
    exact hlow i j ((mem_freeSlots s i).mp hi) (by simpa using hni) hj
  have hmem (i : Slot) : i ∈ s.freeSlots ↔ i ∈ slots ++ s.freeSlots.filter (fun i => decide (i ∉ slots)) := by
    have hsub := hfree i
    rw [← mem_freeSlots] at hsub
    simp only [List.mem_append, List.mem_filter, decide_eq_true_eq]
    tauto
  rw [hf.eq_of_mem_iff happ hmem, List.take_left]

theorem freeSlots_length (s : State) : s.freeSlots.length = s.plates.toList.countP (fun p => p.state == .free) := by
  have hp : s.plates.toList = (List.finRange 64).map s.plate := by
    refine List.ext_getElem (by simp) fun n _ _ => ?_
    simp [State.plate]
  rw [hp, List.countP_map, State.freeSlots, ← List.countP_eq_length_filter]
  rfl

theorem idxOf?_of_mem {l : List Slot} (h : i ∈ l) : l.idxOf? i = some (l.idxOf i) := by
  induction l with
  | nil => cases h
  | cons a l ih =>
    by_cases e : a = i
    · simp [List.idxOf?_cons, e]
    · rw [List.idxOf?_cons, List.idxOf_cons_ne _ e, ih ((List.mem_cons.mp h).resolve_left (Ne.symm e))]
      simp [e]

/-- The plates with a copy in each slot filled. -/
theorem fillCopies_plates (s : State) (mk : Nat → Plate) (hn : slots.Nodup) :
    s.fillCopies mk 0 slots = { s with
      plates := Vector.ofFn fun j => match slots.idxOf? j with
        | some k => mk k
        | none => s.plate j } := by
  obtain ⟨plates, h⟩ := fillCopies_eq mk 0 slots s
  have hp (j : Slot) : plates[j] = (s.fillCopies mk 0 slots).plate j := by rw [h]; rfl
  rw [h]
  refine congrArg (fun v : Vector Plate 64 => { s with plates := v }) (Vector.ext fun n hn64 => ?_)
  rw [Vector.getElem_ofFn]
  refine (hp ⟨n, hn64⟩).trans ?_
  by_cases hm : (⟨n, hn64⟩ : Slot) ∈ slots
  · rw [fillCopies_of_mem hm hn, idxOf?_of_mem hm, Nat.zero_add]
  · rw [fillCopies_of_not_mem hm, List.idxOf?_eq_none_iff.mpr hm]

/-! ### The queue (R63, R70) -/

theorem atClassTail_of_classes {r n : List Slot} (hr : ∀ j ∈ r, (t.plate j).rush = true)
    (hn : ∀ j ∈ n, (t.plate j).rush = false) (i : Slot) :
    t.atClassTail (r ++ n) i = if (t.plate i).rush then r ++ i :: n else r ++ n ++ [i] :=
  State.classes.atClassTail (s := t.setWaitList .exposure (r ++ n)) ⟨rfl, hr, hn⟩ i

/-- Rush plates join the tail of the rush plates one by one. -/
theorem foldl_atClassTail_rush {r n : List Slot} (hr : ∀ j ∈ r, (t.plate j).rush = true)
    (hn : ∀ j ∈ n, (t.plate j).rush = false) (hs : ∀ j ∈ slots, (t.plate j).rush = true) :
    slots.foldl (fun q i => t.atClassTail q i) (r ++ n) = r ++ slots ++ n := by
  induction slots generalizing r with
  | nil => simp
  | cons i l ih =>
    have hi := hs i (List.mem_cons_self ..)
    have hri : ∀ j ∈ r ++ [i], (t.plate j).rush = true := fun j hj => by
      rcases List.mem_append.mp hj with hj | hj
      · exact hr j hj
      · exact List.mem_singleton.mp hj ▸ hi
    rw [List.foldl_cons, atClassTail_of_classes hr hn, if_pos hi, List.append_cons, ih hri fun j hj => hs j (.tail _ hj)]
    simp

/-- Normal plates join the tail of the queue one by one. -/
theorem foldl_atClassTail_normal {r n : List Slot} (hr : ∀ j ∈ r, (t.plate j).rush = true)
    (hn : ∀ j ∈ n, (t.plate j).rush = false) (hs : ∀ j ∈ slots, (t.plate j).rush = false) :
    slots.foldl (fun q i => t.atClassTail q i) (r ++ n) = r ++ n ++ slots := by
  induction slots generalizing n with
  | nil => simp
  | cons i l ih =>
    have hi := hs i (List.mem_cons_self ..)
    have hni : ∀ j ∈ n ++ [i], (t.plate j).rush = false := fun j hj => by
      rcases List.mem_append.mp hj with hj | hj
      · exact hn j hj
      · exact List.mem_singleton.mp hj ▸ hi
    rw [List.foldl_cons, atClassTail_of_classes hr hn, if_neg (by simp [hi]), List.append_assoc,
      ih hni fun j hj => hs j (.tail _ hj)]
    simp

/-- The exposure queue with the copies at the tail of their class, in slot order (R63, R70). -/
theorem queueCopies_fillCopies {mk : Nat → Plate} {r n : List Slot} {b : Bool} (hrush : ∀ k, (mk k).rush = b)
    (hnd : slots.Nodup) (hc : s.classes r n) (hq : ∀ i ∈ s.exposureQ, i ∉ slots) :
    (s.fillCopies mk 0 slots).queueCopies slots = if b then r ++ slots ++ n else r ++ n ++ slots := by
  have hout (j : Slot) (hj : j ∈ s.exposureQ) : ((s.fillCopies mk 0 slots).plate j).rush = (s.plate j).rush := by
    rw [fillCopies_of_not_mem (hq j hj)]
  have hin (j : Slot) (hj : j ∈ slots) : ((s.fillCopies mk 0 slots).plate j).rush = b := by
    rw [fillCopies_of_mem hj hnd, hrush]
  have hr : ∀ j ∈ r, ((s.fillCopies mk 0 slots).plate j).rush = true := fun j hj =>
    (hout j (by simp [hc.all, hj])).trans (hc.rush j hj)
  have hn : ∀ j ∈ n, ((s.fillCopies mk 0 slots).plate j).rush = false := fun j hj =>
    (hout j (by simp [hc.all, hj])).trans (hc.normal j hj)
  have hall : (s.fillCopies mk 0 slots).exposureQ = r ++ n := by
    rw [fillCopies_plates s mk hnd]; exact hc.all
  rw [State.queueCopies, hall]
  cases b with
  | true => exact foldl_atClassTail_rush hr hn hin
  | false => exact foldl_atClassTail_normal hr hn hin

/-! ### The record of a copy (R2, R39 to R43, R57, R61) -/

/-- The five staging marks. -/
theorem stagingMarks_eq (a b c d e : Bool) :
    ((((({} : Marks).addIf a .floorLow).addIf b .floorHigh).addIf c .coverClamp).addIf d .trimClamp).addIf e .faceClamp
      = { floorLow := a, floorHigh := b, coverClamp := c, trimClamp := d, faceClamp := e } := by
  revert a b c d e; decide

theorem clampTrim_eq (v : Int) : clampTrim v = max (-20) (min 20 v) := by
  unfold clampTrim
  split
  · omega
  · split <;> omega

theorem clampNonimage_eq (n : Nat) : clampNonimage n = min 100 n := by
  unfold clampNonimage
  split <;> omega

theorem faceTarget_eq (dose : Nat) (trim : Int) : faceTarget dose trim = max 1 (min 65535 (faceDoseTrimmed dose trim)) :=
  clampTo_eq (by decide) _

theorem faceTarget_ne_iff (dose : Nat) (trim : Int) : faceTarget dose trim ≠ faceDoseTrimmed dose trim
    ↔ faceDoseTrimmed dose trim < 1 ∨ 65535 < faceDoseTrimmed dose trim := by
  rw [faceTarget_eq]; omega

/-- The staging marks of a copy (R41 to R43). -/
def stagingMarks (r : TypeRec) (lot : LotImage) (trim : Int) (floor face : Nat) : Marks where
  floorLow := decide (floor < r.curve[0].floor)
  floorHigh := decide (r.curve[5].floor < floor)
  coverClamp := decide (100 < lot.nonimage.toNat)
  trimClamp := decide (trim ≠ lot.trim.toInt)
  faceClamp := decide (face < 1 ∨ 65535 < face)

theorem stagedPlate_marks (ix : Fin 16) (r : TypeRec) (lot : LotImage) (k : Nat) : (stagedPlate ix r lot k).marks
    = stagingMarks r lot (max (-20) (min 20 lot.trim.toInt)) (r.thickness - lot.relief.toNat)
        (faceDoseTrimmed r.faceDose (max (-20) (min 20 lot.trim.toInt))) := by
  have hface := faceTarget_ne_iff r.faceDose (max (-20) (min 20 lot.trim.toInt))
  simp only [stagedPlate, stagingMarks_eq, clampTrim_eq, stagingMarks, floorLow, floorHigh]
  congr 1
  · rw [Bool.eq_iff_iff, bne_iff_ne, decide_eq_true_iff, ne_comm]
  · rw [Bool.eq_iff_iff, bne_iff_ne, decide_eq_true_iff, hface]

theorem stagedPlate_eq (ix : Fin 16) (r : TypeRec) (lot : LotImage) (k : Nat) :
    stagedPlate ix r lot k = {
      state := .staged
      typeIx := ix
      lot := lot.lot.toNat
      copy := k
      rush := decide (lot.rush.toNat = 1)
      width := lot.width.toNat
      length := lot.length.toNat
      nonimage := min 100 lot.nonimage.toNat
      relief := lot.relief.toNat
      trim := max (-20) (min 20 lot.trim.toInt)
      floor := r.thickness - lot.relief.toNat
      backTarget := backTarget r.curve (r.thickness - lot.relief.toNat)
      faceTarget := max 1 (min 65535 (faceDoseTrimmed r.faceDose (max (-20) (min 20 lot.trim.toInt))))
      mass := removedMass lot.width.toNat lot.length.toNat (min 100 lot.nonimage.toNat) lot.relief.toNat r.density
      dryRemaining := drySeconds r.dryBase r.drySlope r.thickness
      marks := stagingMarks r lot (max (-20) (min 20 lot.trim.toInt)) (r.thickness - lot.relief.toNat)
        (faceDoseTrimmed r.faceDose (max (-20) (min 20 lot.trim.toInt))) } := by
  have hrush : (lot.rush == 1) = decide (lot.rush.toNat = 1) := by
    rw [Bool.eq_iff_iff, beq_iff_eq, decide_eq_true_iff, ← BitVec.toNat_inj]; rfl
  rw [← stagedPlate_marks ix r lot k]
  simp only [stagedPlate, hrush, clampTrim_eq, clampNonimage_eq, faceTarget_eq]
  rfl

/-! ### The checks and the effect (R67, R68) -/

theorem rushFlag_iff (b : Byte) : (b != 0 && b != 1) = true ↔ 1 < b.toNat := by
  simp only [Bool.and_eq_true, bne_iff_ne, ne_eq, ← BitVec.toNat_inj]
  simp only [BitVec.ofNat_eq_ofNat, BitVec.toNat_ofNat]
  omega

section checks
variable {lot : LotImage} {ix : Fin 16}

theorem State.lotFits_iff (s : State) (lot : LotImage) : s.lotFits lot = true ↔ 1 ≤ lot.width.toNat
    ∧ lot.width.toNat ≤ 2 * s.item .laneWidth ∧ 1 ≤ lot.length.toNat ∧ lot.length.toNat ≤ s.item .bedLength := by
  simp [State.lotFits, and_assoc]

theorem stageLotEffect_of_badParam (h : 15 < lot.copiesLess1.toNat ∨ 1 < lot.rush.toNat) :
    stageLotEffect lot s = refuse .badParam s := by
  unfold stageLotEffect
  split
  · rfl
  next hc => exact if_pos ((rushFlag_iff lot.rush).mpr (h.resolve_left hc))

variable (hc : lot.copiesLess1.toNat ≤ 15) (hr : lot.rush.toNat ≤ 1)
include hc hr

theorem stageLotEffect_of_noType (h : namedType lot.typeIx = none) : stageLotEffect lot s = refuse .typeInvalid s := by
  rw [stageLotEffect, if_neg (by omega), if_neg (by rw [rushFlag_iff]; omega), h]

theorem stageLotEffect_of_invalid (ht : namedType lot.typeIx = some ix) (hv : (s.typeRec ix).valid = false) :
    stageLotEffect lot s = refuse .typeInvalid s := by
  rw [stageLotEffect, if_neg (by omega), if_neg (by rw [rushFlag_iff]; omega), ht]
  exact if_pos (by simp [hv])

variable (ht : namedType lot.typeIx = some ix) (hv : (s.typeRec ix).valid = true)
include ht hv

theorem stageLotEffect_of_badRelief (h : lot.relief.toNat = 0 ∨ (s.typeRec ix).thickness ≤ lot.relief.toNat) :
    stageLotEffect lot s = refuse .badRelief s := by
  rw [stageLotEffect, if_neg (by omega), if_neg (by rw [rushFlag_iff]; omega), ht]
  exact (if_neg (by simp [hv])).trans (if_pos (by simp; omega))

variable (h1 : 1 ≤ lot.relief.toNat) (h2 : lot.relief.toNat < (s.typeRec ix).thickness)
include h1 h2

theorem stageLotEffect_of_badSize (h : s.lotFits lot = false) : stageLotEffect lot s = refuse .badSize s := by
  rw [stageLotEffect, if_neg (by omega), if_neg (by rw [rushFlag_iff]; omega), ht]
  exact (if_neg (by simp [hv])).trans ((if_neg (by simp; omega)).trans (if_pos (by simp [h])))

theorem stageLotEffect_of_fits (h : s.lotFits lot = true) :
    stageLotEffect lot s = if s.freeSlots.length < lot.copiesLess1.toNat + 1 then refuse .full s
      else (s.stage (stagedPlate ix (s.typeRec ix) lot) (s.freeSlots.take (lot.copiesLess1.toNat + 1)),
        ⟨okOrClamped (stagedPlate ix (s.typeRec ix) lot 0).anyMark,
          [slotByte (s.freeSlots.take (lot.copiesLess1.toNat + 1)).head?, byte1 (lot.copiesLess1.toNat + 1)]⟩) := by
  rw [stageLotEffect, if_neg (by omega), if_neg (by rw [rushFlag_iff]; omega), ht]
  exact (if_neg (by simp [hv])).trans ((if_neg (by simp; omega)).trans (if_neg (by simp [h])))

end checks

theorem okOrClamped_code (m : Marks) : (okOrClamped (m != {})).code = if m = {} then 0x00 else 0x01 := by
  by_cases h : m = {}
  · rw [if_pos h, h]; rfl
  · rw [if_neg h, (bne_iff_ne (a := m)).mpr h]; rfl

theorem stagedPlate_code (ix : Fin 16) (r : TypeRec) (lot : LotImage) :
    (okOrClamped (stagedPlate ix r lot 0).anyMark).code
      = if stagingMarks r lot (max (-20) (min 20 lot.trim.toInt)) (r.thickness - lot.relief.toNat)
          (faceDoseTrimmed r.faceDose (max (-20) (min 20 lot.trim.toInt))) = {} then 0x00 else 0x01 := by
  rw [Plate.anyMark, stagedPlate_marks, okOrClamped_code]

theorem byte1_succ (b : Byte) : byte1 (b.toNat + 1) = b + 1 :=
  BitVec.eq_of_toNat_eq (by simp [byte1])

/-- The copies of an accepted lot made and queued (R69, R70). -/
theorem stage_stagedPlate {r n : List Slot} {lot : LotImage} {ix : Fin 16} {ty : TypeRec} (hnd : slots.Nodup)
    (hc : s.classes r n) (hq : ∀ i ∈ s.exposureQ, i ∉ slots) :
    s.stage (stagedPlate ix ty lot) slots = State.tellReady
      { s with
        plates := Vector.ofFn fun j => match slots.idxOf? j with
          | some k => stagedPlate ix ty lot k
          | none => s.plate j
        exposureQ := if lot.rush.toNat = 1 then r ++ slots ++ n else r ++ n ++ slots } s.exposureQ.isEmpty .E 0 := by
  have hrush (k : Nat) : (stagedPlate ix ty lot k).rush = decide (lot.rush.toNat = 1) := by rw [stagedPlate_eq]
  rw [State.stage, queueCopies_fillCopies hrush hnd hc hq, fillCopies_plates s _ hnd]
  simp only [decide_eq_true_eq]
  rfl

/-- Settles O33: the checks in order, then the slots, the copies and the queue. -/
theorem stageLotStagesItsCopies : Obligations.StageLotStagesItsCopies := by
  refine ⟨fun s lot hg h => ?_, fun s lot hg hc hr h => ?_, fun s lot ix hg hc hr hix => ⟨fun hv => ?_, fun hv =>
    ⟨fun h => ?_, fun h1 h2 => ⟨fun h => ?_, fun hw1 hw2 hl1 hl2 => ⟨fun h => ?_, ?_⟩⟩⟩⟩⟩
    <;> rw [exec_stageLot lot hg]
  · rw [stageLotEffect_of_badParam h]; rfl
  · rw [stageLotEffect_of_noType hc hr (namedType_of_gt h)]; rfl
  all_goals have ht := namedType_of_lt hix
  · rw [stageLotEffect_of_invalid hc hr ht hv]; rfl
  · rw [stageLotEffect_of_badRelief hc hr ht hv h]; rfl
  · have hfits : s.lotFits lot = false := by rw [Bool.eq_false_iff, ne_eq, State.lotFits_iff]; omega
    rw [stageLotEffect_of_badSize hc hr ht hv h1 h2 hfits]; rfl
  all_goals have hfits := (s.lotFits_iff lot).mpr ⟨hw1, hw2, hl1, hl2⟩
  · rw [stageLotEffect_of_fits hc hr ht hv h1 h2 hfits, if_pos (by rwa [freeSlots_length])]; rfl
  · rintro slots r n first _ _ _ _ hlen hsort hfree hlow hfirst hcl hq rfl rfl rfl rfl
    have htake := take_freeSlots hsort hfree hlow
    have hroom : ¬ s.freeSlots.length < lot.copiesLess1.toNat + 1 := fun hlt => by
      have := congrArg List.length htake
      rw [List.length_take] at this
      omega
    have hnd : slots.Nodup := hsort.imp fun h => ne_of_lt h
    have hout : ∀ i ∈ s.exposureQ, i ∉ slots := fun i hi hs => hq i hi (hfree i hs)
    rw [stageLotEffect_of_fits hc hr ht hv h1 h2 hfits, if_neg hroom, ← hlen, htake, hfirst, hlen, State.granted_mk,
      stagedPlate_code, byte1_succ, stage_stagedPlate hnd hcl hout]
    simp only [stagedPlate_eq]
    rfl

end

end Sys2Proof.Machine
end

section
/-! The Type Table and the configuration read back (R29 to R36, R186): WRITE_TYPE, READ_TYPE and READ_CONFIG. -/

namespace Sys2Proof.Machine

section
variable {s : State} {ix : Byte} {image : TypeImage} {t : Fin 16}

/-! ### The type in use (R32) -/

theorem PlateState.usesType_iff (st : PlateState) : st.usesType = true ↔ st ∉ [PlateState.free, .done, .scrapped] := by
  cases st <;> decide

theorem State.typeInUse_iff (s : State) (t : Fin 16) : s.typeInUse t = true
    ↔ ∃ i, (s.plate i).typeIx = t ∧ (s.plate i).state ∉ [PlateState.free, .done, .scrapped] := by
  simp only [State.typeInUse, List.any_eq_true, Bool.and_eq_true, beq_iff_eq, PlateState.usesType_iff]
  constructor
  · rintro ⟨p, hp, hu, ht⟩
    obtain ⟨n, hn, rfl⟩ := Vector.getElem_of_mem (Vector.mem_toList_iff.mp hp)
    exact ⟨⟨n, hn⟩, ht, hu⟩
  · rintro ⟨i, ht, hu⟩
    exact ⟨s.plate i, Vector.mem_toList_iff.mpr (Vector.getElem_mem i.isLt), hu, ht⟩

theorem State.typeInUse_eq_false
    (h : ∀ i, (s.plate i).typeIx = t → (s.plate i).state ∈ [PlateState.free, .done, .scrapped]) :
    s.typeInUse t = false := by
  rw [← Bool.not_eq_true, State.typeInUse_iff]
  rintro ⟨i, ht, hu⟩
  exact hu (h i ht)

/-! ### The curve (R30) -/

theorem climbs_iff (l : List CurvePoint) : climbs l = true
    ↔ l.Pairwise (fun a b => a.dose < b.dose) ∧ l.Pairwise (fun a b => a.floor < b.floor) := by
  refine ⟨climbs_pairwise, fun h => ?_⟩
  induction l with
  | nil => rfl
  | cons a l ih =>
    obtain ⟨hdose, hfloor⟩ := h
    cases l with
    | nil => rfl
    | cons b rest =>
      have hab : a.dose < b.dose ∧ a.floor < b.floor :=
        ⟨List.rel_of_pairwise_cons hdose (.head _), List.rel_of_pairwise_cons hfloor (.head _)⟩
      simp [climbs, hab, ih ⟨hdose.tail, hfloor.tail⟩]

/-- A dose comes in two bytes, so that R30's upper bound on it always holds. -/
theorem curve_dose_le (image : TypeImage) : ∀ pt ∈ image.curve.toList, pt.dose ≤ 65535 := by
  have bound (w : Word) : w.toNat ≤ 65535 := Nat.le_of_lt_succ w.isLt
  simp [TypeImage.curve, curvePoint, bound]

theorem thicknessOk_iff (n : Nat) : thicknessOk n = true ↔ 76 ≤ n ∧ n ≤ 700 := by
  simp [thicknessOk]

theorem curveOk_iff (n : Nat) (image : TypeImage) : curveOk n image.curve = true
    ↔ image.curve.toList.Pairwise (fun a b => a.dose < b.dose)
      ∧ image.curve.toList.Pairwise (fun a b => a.floor < b.floor)
      ∧ ∀ pt ∈ image.curve.toList, 1 ≤ pt.dose ∧ pt.floor < n := by
  have hpts : (∀ pt ∈ image.curve.toList, (1 ≤ pt.dose ∧ pt.dose ≤ 65535) ∧ pt.floor < n)
      ↔ ∀ pt ∈ image.curve.toList, 1 ≤ pt.dose ∧ pt.floor < n :=
    forall₂_congr fun pt h => by simp [curve_dose_le image pt h]
  simp only [curveOk, Bool.and_eq_true, List.all_eq_true, decide_eq_true_eq, climbs_iff, hpts]
  tauto

/-- Both checks on a record's fixed figures, the thickness first (R29 to R31). -/
theorem thickness_curve_ok_iff (image : TypeImage) :
    (thicknessOk image.thickness.toNat = true ∧ curveOk image.thickness.toNat image.curve = true)
    ↔ 76 ≤ image.thickness.toNat ∧ image.thickness.toNat ≤ 700
      ∧ image.curve.toList.Pairwise (fun a b => a.dose < b.dose)
      ∧ image.curve.toList.Pairwise (fun a b => a.floor < b.floor)
      ∧ ∀ pt ∈ image.curve.toList, 1 ≤ pt.dose ∧ pt.floor < image.thickness.toNat := by
  rw [thicknessOk_iff, curveOk_iff, and_assoc]

/-! ### The record stored (R33) -/

theorem clampTo_word (w : Word) : clampTo 1 65535 w.toNat = max 1 w.toNat := by
  rw [clampTo_eq (by decide), min_eq_right (Nat.le_of_lt_succ w.isLt)]

theorem clampTo_zero (hi v : Nat) : clampTo 0 hi v = min hi v := by
  rw [clampTo_eq (Nat.zero_le hi), Nat.zero_max]

theorem clamped_unclamped (image : TypeImage) : image.unclamped.clamped = {
    valid := true
    thickness := image.thickness.toNat
    curve := image.curve
    faceDose := max 1 image.faceDose.toNat
    backMaxS := max 1 image.backMaxS.toNat
    faceMaxS := max 1 image.faceMaxS.toNat
    rateFresh := max 10 (min 1000 image.rateFresh.toNat)
    sens := min 100 image.sens.toNat
    density := max 500 (min 2000 image.density.toNat)
    dryBase := min 480 image.dryBase.toNat
    drySlope := min 100 image.drySlope.toNat
    detackDose := max 1 image.detackDose.toNat
    postDose := max 1 image.postDose.toNat
    detackMaxS := max 1 image.detackMaxS.toNat
    postMaxS := max 1 image.postMaxS.toNat } := by
  have hrate := clampTo_eq (lo := 10) (hi := 1000) (by decide) image.rateFresh.toNat
  have hdensity := clampTo_eq (lo := 500) (hi := 2000) (by decide) image.density.toNat
  simp only [TypeRec.clamped, TypeImage.unclamped, clampTo_word, clampTo_zero, hrate, hdensity]

/-- The result byte of a command that brings figures into range: CLAMPED when one has changed. -/
theorem code_okOrClamped_bne {α : Type} [DecidableEq α] (a b : α) :
    (okOrClamped (a != b)).code = if a = b then 0x00 else 0x01 := by
  by_cases h : a = b
  · rw [if_pos h, bne_eq_false_iff_eq.mpr h]; rfl
  · rw [if_neg h, bne_iff_ne.mpr h]; rfl

/-! ### WRITE_TYPE's checks (R31) -/

theorem writeTypeEffect_of_noType (h : namedType ix = none) : writeTypeEffect ix image s = refuse .badParam s := by
  rw [writeTypeEffect, h]

section checks
variable (ht : namedType ix = some t)
include ht

theorem writeTypeEffect_of_badFlag (h : 1 < image.valid.toNat) : writeTypeEffect ix image s = refuse .badParam s := by
  rw [writeTypeEffect, ht]
  exact if_pos ((rushFlag_iff image.valid).mpr h)

variable (hv : image.valid.toNat ≤ 1)
include hv

theorem writeTypeEffect_of_inUse (h : s.typeInUse t = true) : writeTypeEffect ix image s = refuse .typeInUse s := by
  rw [writeTypeEffect, ht]
  exact (if_neg (by rw [rushFlag_iff]; omega)).trans (if_pos h)

/-- The writes that get past the check of use. -/
theorem writeTypeEffect_of_unused (h : s.typeInUse t = false) : writeTypeEffect ix image s =
    if image.valid = 0 then (s.setType t TypeRec.cleared, Reply.just .ok)
    else if thicknessOk image.thickness.toNat = true ∧ curveOk image.thickness.toNat image.curve = true then
      (s.setType t image.unclamped.clamped, Reply.just (okOrClamped (image.unclamped.clamped != image.unclamped)))
    else refuse .badCurve s := by
  rw [writeTypeEffect, ht]
  refine (if_neg (by rw [rushFlag_iff]; omega)).trans ((if_neg (by simp [h])).trans ?_)
  cases thicknessOk image.thickness.toNat <;> cases curveOk image.thickness.toNat image.curve <;> simp

end checks

/-- Settles O30: the checks in order, then the record cleared or stored. -/
theorem writeTypeChecksThenStores : Obligations.WriteTypeChecksThenStores := by
  refine ⟨fun s ix image hg h => ?_, fun s ix image t hg hix => ⟨fun h => ?_, fun hv => ⟨fun h => ?_, fun h =>
    ⟨fun h0 => ?_, fun h1 => ⟨fun hbad => ?_, fun hok => ⟨image.unclamped.clamped, clamped_unclamped image, ?_⟩⟩⟩⟩⟩⟩
    <;> rw [exec_writeType ix image hg]
  · rw [writeTypeEffect_of_noType (namedType_of_gt h)]; rfl
  all_goals have ht := namedType_of_lt hix
  · rw [writeTypeEffect_of_badFlag ht h]; rfl
  · rw [writeTypeEffect_of_inUse ht hv ((s.typeInUse_iff t).mpr h)]; rfl
  all_goals rw [writeTypeEffect_of_unused ht hv (State.typeInUse_eq_false h)]
  · rw [if_pos h0]; rfl
  all_goals rw [if_neg (by simp [h1])]
  · rw [if_neg (mt (thickness_curve_ok_iff image).mp hbad)]; rfl
  · rw [if_pos ((thickness_curve_ok_iff image).mpr hok), State.granted_just, code_okOrClamped_bne]

/-! ### READ_TYPE (R36, 2.4.1) -/

/-- The numbers of the type record reply, each with the number of its bytes, in the order of 2.4.1. -/
def TypeRec.fields (r : TypeRec) : List (Nat × Nat) :=
  [(1, r.valid.toNat), (2, r.thickness), (2, r.curve[0].dose), (2, r.curve[0].floor), (2, r.curve[1].dose),
    (2, r.curve[1].floor), (2, r.curve[2].dose), (2, r.curve[2].floor), (2, r.curve[3].dose), (2, r.curve[3].floor),
    (2, r.curve[4].dose), (2, r.curve[4].floor), (2, r.curve[5].dose), (2, r.curve[5].floor), (2, r.faceDose),
    (2, r.backMaxS), (2, r.faceMaxS), (2, r.rateFresh), (1, r.sens), (2, r.density), (2, r.dryBase), (1, r.drySlope),
    (2, r.detackDose), (2, r.postDose), (2, r.detackMaxS), (2, r.postMaxS)]

theorem curve_toList_eq (v : Vector CurvePoint 6) : v.toList = [v[0], v[1], v[2], v[3], v[4], v[5]] := by
  refine List.ext_getElem (by simp) fun n hn _ => ?_
  have hn : n < 6 := by simpa using hn
  interval_cases n <;> rfl

theorem typeBytes_eq (r : TypeRec) : r.bytes = fieldBytes r.fields := by
  rw [TypeRec.bytes, TypeRec.fields, curve_toList_eq]
  simp only [Machine.flagByte, fieldBytes_cons, fieldBytes_nil, beBytes_one, List.flatMap_cons, List.flatMap_nil,
    List.append_assoc, List.append_nil, List.cons_append, List.nil_append]

/-- The widths of the numbers of 2.4.1, in bytes. -/
def typeWidths : List Nat := [1, 2, 2, 2, 2, 2, 2, 2, 2, 2, 2, 2, 2, 2, 2, 2, 2, 2, 1, 2, 2, 1, 2, 2, 2, 2]

theorem typeFields_widths (r : TypeRec) : r.fields.map (fun f => f.1) = typeWidths := rfl

section fields
variable {r : TypeRec} (k : Nat) {v o : Nat}

/-- A one-byte number of the type record reply, at its offset. -/
theorem byteOf_typeFields (h : r.fields[k]? = some (1, v)) (ho : (typeWidths.take k).sum = o) :
    byteOf (fieldBytes r.fields) o = v % 2 ^ 8 := by
  rw [← ho, ← typeFields_widths r]
  exact numberAt_fieldBytes h

/-- A two-byte number of the type record reply, at its offset. -/
theorem wordAt_typeFields (h : r.fields[k]? = some (2, v)) (ho : (typeWidths.take k).sum = o) :
    numberAt (fieldBytes r.fields) o 2 = v % 2 ^ 16 := by
  rw [← ho, ← typeFields_widths r]
  exact numberAt_fieldBytes h

end fields

/-- The two numbers of a point of the curve, at their offsets. -/
theorem curveAt_typeFields (r : TypeRec) (n : Fin 6) :
    numberAt (fieldBytes r.fields) (3 + 4 * n) 2 = r.curve[n].dose % 2 ^ 16
      ∧ numberAt (fieldBytes r.fields) (5 + 4 * n) 2 = r.curve[n].floor % 2 ^ 16 := by
  have hdose : r.fields[2 + 2 * n.val]? = some (2, r.curve[n].dose) := by fin_cases n <;> rfl
  have hfloor : r.fields[3 + 2 * n.val]? = some (2, r.curve[n].floor) := by fin_cases n <;> rfl
  exact ⟨wordAt_typeFields _ hdose (by fin_cases n <;> rfl), wordAt_typeFields _ hfloor (by fin_cases n <;> rfl)⟩

theorem readTypeEffect_of_lt (h : ix.toNat = t.val) :
    readTypeEffect ix s = (s, ⟨.ok, fieldBytes (s.typeRec t).fields⟩) := by
  simp only [readTypeEffect, namedType_of_lt h, typeBytes_eq]

theorem readTypeEffect_of_gt (h : 15 < ix.toNat) : readTypeEffect ix s = refuse .badParam s := by
  rw [readTypeEffect, namedType_of_gt h]

/-! ### READ_CONFIG (R186) -/

theorem beBytes_two (v : Nat) : beBytes 2 v = word2 v := by
  simp [beBytes, word2]

theorem readConfigEffect_of_index {x : Item} (h : ix.toNat = x.index.val) :
    readConfigEffect ix s = (s, ⟨.ok, word2 (s.item x)⟩) := by
  simp only [readConfigEffect, namedItem_of_index h, beBytes_two]

theorem readConfigEffect_of_gt (h : 15 < ix.toNat) : readConfigEffect ix s = refuse .badParam s := by
  rw [readConfigEffect, namedItem_of_gt h]

/-- Settles O31, the type record number by number. -/
theorem readTypeAndReadConfigShowWhatIsStored : Obligations.ReadTypeAndReadConfigShowWhatIsStored := by
  refine ⟨fun s ix hg h => ?_, fun s ix t hg h => ⟨fieldBytes (s.typeRec t).fields, ?_, ?_, ?_⟩, fun s code hg h => ?_,
    fun s code x hg h => ?_⟩
  · rw [exec_readType ix hg, readTypeEffect_of_gt h]; rfl
  · rw [exec_readType ix hg, readTypeEffect_of_lt h]; rfl
  · rw [fieldBytes_length, typeFields_widths]; decide
  · have hvalid : (s.typeRec t).valid.toNat % 2 ^ 8 = (s.typeRec t).valid.toNat :=
      Nat.mod_eq_of_lt ((Bool.toNat_lt _).trans (by decide))
    have byte := @byteOf_typeFields (s.typeRec t)
    have word := @wordAt_typeFields (s.typeRec t)
    exact ⟨(byte 0 rfl rfl).trans hvalid, word 1 rfl rfl, curveAt_typeFields _, word 14 rfl rfl, word 15 rfl rfl,
      word 16 rfl rfl, word 17 rfl rfl, byte 18 rfl rfl, word 19 rfl rfl, word 20 rfl rfl, byte 21 rfl rfl,
      word 22 rfl rfl, word 23 rfl rfl, word 24 rfl rfl, word 25 rfl rfl⟩
  · rw [exec_readConfig code hg, readConfigEffect_of_gt h]; rfl
  · rw [exec_readConfig code hg, readConfigEffect_of_index h]; rfl

end

end Sys2Proof.Machine
end

-- ==== Sys2Proof/Proofs/X ====
section
/-! The solvent account and WASH_CLAIM (R52 to R56, R59, R124 to R130, R135 to R137): a gate evaluation, the
commands that set the mass, and the admission of a plate to the washout. -/

namespace Sys2Proof.Machine

section
variable {s : State} {i : Slot} {b : Byte} {m l : Nat}

/-! ### Events to P and to W (R128) -/

theorem State.post_comm (s : State) {p q : Port} (h : p ≠ q) (e f : Event) :
    (s.post p e).post q f = (s.post q f).post p e := by
  have hv : p.index.val ≠ q.index.val := fun hi => h (Port.index_injective (Fin.ext hi))
  simp [State.post, State.modPort, Vector.set_comm _ _ hv, Vector.getElem_set_ne _ _ hv,
    Vector.getElem_set_ne _ _ hv.symm]

theorem State.postAll_cons (s : State) (p : Port) (e : Event) (es : List Event) :
    s.postAll p (e :: es) = (s.post p e).postAll p es := rfl

theorem State.post_postAll_comm (s : State) {p q : Port} (h : p ≠ q) (e : Event) (es : List Event) :
    (s.post q e).postAll p es = (s.postAll p es).post q e := by
  induction es generalizing s with
  | nil => rfl
  | cons f es ih => rw [State.postAll_cons, State.postAll_cons, State.post_comm s (Ne.symm h), ih]

/-- Events posted one by one, each to P and to W (R128). -/
def State.tellSolvent (s : State) (es : List Event) : State := es.foldl (fun t e => (t.post .P e).post .W e) s

theorem State.tellSolvent_eq_postAll (s : State) (es : List Event) :
    s.tellSolvent es = (s.postAll .P es).postAll .W es := by
  induction es generalizing s with
  | nil => rfl
  | cons e es ih =>
    calc s.tellSolvent (e :: es) = (((s.post .P e).post .W e).postAll .P es).postAll .W es := ih _
      _ = (((s.post .P e).postAll .P es).post .W e).postAll .W es := by rw [State.post_postAll_comm _ (by decide)]

theorem State.tellSolvent_append (s : State) (es fs : List Event) :
    s.tellSolvent (es ++ fs) = (s.tellSolvent es).tellSolvent fs := List.foldl_append ..

/-! ### The gate evaluation (R127) -/

/-- The state with another solvent account. -/
def State.withSolvent (s : State) (k : Solvent) : State := { s with solvent := k }

theorem State.tellSolvent_solvent (s : State) (es : List Event) : (s.tellSolvent es).solvent = s.solvent := by
  induction es generalizing s with
  | nil => rfl
  | cons e es ih => exact ih _

theorem State.tellSolvent_item (s : State) (es : List Event) (x : Item) : (s.tellSolvent es).item x = s.item x := by
  induction es generalizing s with
  | nil => rfl
  | cons e es ih => exact ih _

theorem State.tellSolvent_withSolvent (s : State) (es : List Event) (k : Solvent) :
    (s.tellSolvent es).withSolvent k = (s.withSolvent k).tellSolvent es := by
  induction es generalizing s with
  | nil => rfl
  | cons e es ih => exact ih _

/-- The warn flag follows the loading, and its rise is told (R127 step 1). -/
theorem evaluateWarn_eq {warn : Bool} (h : warn = decide (s.item .lWarn ≤ l)) :
    s.evaluateWarn l = (s.withSolvent { s.solvent with warn := warn }).tellSolvent
      (if warn && !s.solvent.warn then [⟨.solvent, none, 2⟩] else []) := by
  have hsame (hw : s.solvent.warn = warn) : s = s.withSolvent { s.solvent with warn := warn } := by rw [← hw]; rfl
  by_cases hl : s.item .lWarn ≤ l
  · obtain rfl : warn = true := h.trans (decide_eq_true hl)
    cases hw : s.solvent.warn
    · exact if_pos (by simp [hl, hw])
    · rw [State.evaluateWarn, if_neg (by simp [hw]), if_neg (by simp [hl])]
      exact hsame hw
  · obtain rfl : warn = false := h.trans (decide_eq_false hl)
    cases hw : s.solvent.warn
    · rw [State.evaluateWarn, if_neg (by simp [hl]), if_neg (by simp [hw])]
      exact hsame hw
    · rw [State.evaluateWarn, if_neg (by simp [hl]), if_pos (by simp [hw, Nat.lt_of_not_le hl])]
      rfl

theorem nextGate_eq (g : Gate) (l lHold lResume : Nat) : nextGate g l lHold lResume
    = if g = .spent then (if l ≤ lResume then .opened else .spent) else if lHold ≤ l then .spent else .opened := by
  cases g <;> rfl

theorem nextGate_code (g : Gate) (l lHold lResume : Nat) :
    (nextGate g l lHold lResume).code = if nextGate g l lHold lResume = .opened then 0 else 1 := by
  rw [nextGate_eq]
  split <;> split <;> rfl

/-- The gate moves with hysteresis, and each change of it is told (R127 step 2). -/
theorem evaluateGateState_eq {g : Gate} (h : g = nextGate s.solvent.gate l (s.item .lHold) (s.item .lResume)) :
    s.evaluateGateState l = (s.withSolvent { s.solvent with gate := g }).tellSolvent
      (if g = s.solvent.gate then [] else [⟨.solvent, none, if g = .opened then 0 else 1⟩]) := by
  have hcode : g.code = if g = .opened then 0 else 1 := by rw [h, nextGate_code]
  rw [State.evaluateGateState, ← h, ← hcode]
  by_cases hg : g = s.solvent.gate
  · rw [if_pos hg, if_pos hg, hg]; rfl
  · rw [if_neg hg, if_neg hg]; rfl

theorem evaluateGate_of_unknown (h : s.solvent.mass = none) :
    s.evaluateGate = { s with solvent := ⟨none, .unknown, false⟩ } := by
  simp only [State.evaluateGate, h]

theorem evaluateGate_of_known {warn : Bool} {gate : Gate} (hm : s.solvent.mass = some m) (hl : l = m / s.item .tankL)
    (hw : warn = decide (s.item .lWarn ≤ l))
    (hg : gate = nextGate s.solvent.gate l (s.item .lHold) (s.item .lResume)) :
    s.evaluateGate = (s.withSolvent ⟨some m, gate, warn⟩).tellSolvent
      ((if warn && !s.solvent.warn then [⟨.solvent, none, 2⟩] else [])
        ++ (if gate = s.solvent.gate then [] else [⟨.solvent, none, if gate = .opened then 0 else 1⟩])) := by
  have heval : s.evaluateGate = (s.evaluateWarn l).evaluateGateState l := by
    rw [hl]; simp only [State.evaluateGate, hm, loadingOf]
  have hsolvent : (s.evaluateWarn l).solvent = ⟨some m, s.solvent.gate, warn⟩ := by
    rw [evaluateWarn_eq hw, State.tellSolvent_solvent, ← hm]; rfl
  have hitem (x : Item) : (s.evaluateWarn l).item x = s.item x := by
    rw [evaluateWarn_eq hw, State.tellSolvent_item]; rfl
  rw [heval, evaluateGateState_eq (g := gate) (by rw [hsolvent, hitem, hitem, hg]), hsolvent, evaluateWarn_eq hw,
    State.tellSolvent_withSolvent, State.tellSolvent_append]
  rfl

/-! ### Keeping the solvent (R135 to R137) -/

theorem beBytes_four (v : Nat) : beBytes 4 v
    = [BitVec.ofNat 8 (v / 2 ^ 24), BitVec.ofNat 8 (v / 2 ^ 16), BitVec.ofNat 8 (v / 2 ^ 8), BitVec.ofNat 8 v] := by
  simp [beBytes]

theorem replenishEffect_of_known {litres : Word} (hm : s.solvent.mass = some m) :
    replenishEffect litres s
      = ((s.setMass (m - drainedMass m (min litres.toNat (s.item .tankL)) (s.item .tankL))).evaluateGate,
        ⟨okOrClamped (decide (s.item .tankL < litres.toNat)),
          beBytes 4 (drainedMass m (min litres.toNat (s.item .tankL)) (s.item .tankL))⟩) := by
  simp only [replenishEffect, hm]

theorem okOrClamped_code_of_le (n v : Nat) : (okOrClamped (decide (v < n))).code = if n ≤ v then 0x00 else 0x01 := by
  by_cases h : n ≤ v
  · rw [if_pos h, decide_eq_false (Nat.not_lt.mpr h)]; rfl
  · rw [if_neg h, decide_eq_true (Nat.lt_of_not_le h)]; rfl

/-- Settles O42: the evaluation step by step, then the three commands that set the mass. -/
theorem theSolventAccountMovesTheGate : Obligations.TheSolventAccountMovesTheGate := by
  refine ⟨fun s => evaluateGate_of_unknown, ?_, fun s litres hg => ⟨fun hm => ?_, ?_⟩, fun s hg => ?_,
    fun s loading hg => ?_⟩
  · rintro s m l warn gate _ hm hl hw hg rfl
    rw [evaluateGate_of_known hm hl hw (hg.trans (nextGate_eq ..).symm), State.tellSolvent_eq_postAll]
    rfl
  · rw [exec_replenish litres hg, replenishEffect, hm]; rfl
  · rintro m _ _ hm rfl rfl
    rw [exec_replenish litres hg, replenishEffect_of_known hm, State.granted_mk, okOrClamped_code_of_le, beBytes_four]
    rfl
  · rw [exec_solventChange hg]; rfl
  · rw [exec_setLoading loading hg]; rfl

/-! ### WASH_CLAIM (R129, R130) -/

theorem slotCode_ne_bad (h : b.toNat ≤ 63 ∨ b = 0xFF) : slotCode b ≠ .bad := by
  rcases h with h | rfl
  · rw [slotCode_of_lt (i := ⟨b.toNat, by omega⟩) rfl]; exact nofun
  · rw [slotCode_next]; exact nofun

theorem washClaimEffect_of_bad (h : slotCode b = .bad) : washClaimEffect b s = refuse .badSlot s := if_pos h

section
variable (hb : slotCode b ≠ .bad)
include hb

theorem washClaimEffect_of_unknown (hg : s.solvent.gate = .unknown) :
    washClaimEffect b s = refuse .loadingUnknown s := by
  rw [washClaimEffect, if_neg hb, if_pos hg]

theorem washClaimEffect_of_spent (hg : s.solvent.gate = .spent) : washClaimEffect b s = refuse .solventSpent s := by
  rw [washClaimEffect, if_neg hb, if_neg (by simp [hg]), if_pos hg]

theorem washClaimEffect_of_full (hg : s.solvent.gate = .opened) (hr : 3 ≤ s.transit.length) :
    washClaimEffect b s = refuse .transitFull s := by
  rw [washClaimEffect, if_neg hb, if_neg (by simp [hg]), if_neg (by simp [hg]),
    if_pos (show transitCapacity ≤ s.transit.length from hr)]

end

section
variable (hg : s.solvent.gate = .opened) (hr : s.transit.length < 3)
include hg hr

theorem washClaimEffect_of_empty (hb : slotCode b = .next) (hq : s.washQ = []) :
    washClaimEffect b s = refuse .queueEmpty s := by
  simp [washClaimEffect, hb, hg, transitCapacity, hr, hq]

theorem washClaimEffect_of_head {rest : List Slot} (hb : slotCode b = .next) (hq : s.washQ = i :: rest) :
    washClaimEffect b s = s.claim i := by
  simp [washClaimEffect, hb, hg, transitCapacity, hr, hq]

theorem washClaimEffect_of_other (hb : slotCode b = .named i) (hs : (s.plate i).state ≠ .exposed) :
    washClaimEffect b s = refuse .badState s := by
  simp [washClaimEffect, hb, hg, transitCapacity, hr, hs]

theorem washClaimEffect_of_exposed (hb : slotCode b = .named i) (hs : (s.plate i).state = .exposed) :
    washClaimEffect b s = s.claim i := by
  simp [washClaimEffect, hb, hg, transitCapacity, hr, hs]

end

/-! ### The speed and the overdue time of a claim (R53 to R56) -/

theorem rateFactor_eq (sens projected : Nat) :
    rateFactor sens projected = max 250 (min 1000 (1000 - sens * projected / 10)) := by
  rw [rateFactor, clampTo_eq (by decide)]
  omega

theorem State.projectedLoading_of_known (hm : s.solvent.mass = some m) :
    s.projectedLoading = (m + (s.transit.map fun e =>
      if (s.plate e.slot).massCounted then 0 else (s.plate e.slot).mass).sum) / s.item .tankL := by
  rw [State.projectedLoading, hm]; rfl

theorem State.speedFor_eq (s : State) (i : Slot) : s.speedFor i
    = s.item .brushLen * max 1 ((s.plateType i).rateFresh
        * max 250 (min 1000 (1000 - (s.plateType i).sens * s.projectedLoading / 10)) / 1000)
      / (10 * (s.plate i).relief) := by
  rw [State.speedFor, rawSpeed, effectiveRate, rateFactor_eq, Nat.mul_comm 10]

theorem overdueTime_eq (brushLen v washTail : Nat) :
    overdueTime brushLen v washTail = 2 * ((60 * brushLen + v - 1) / v) + washTail := by
  rw [overdueTime, ceilDiv, Nat.mul_comm 60]

/-- A speed of a claim: a mark for each end of the range at which it was clamped (R55). -/
theorem Marks.addIf_wash (k : Marks) (short long : Bool) : (k.addIf short .washShort).addIf long .washLong
    = { k with washShort := k.washShort || short, washLong := k.washLong || long } := by
  cases short <;> cases long <;> simp [Marks.addIf, Marks.add]

theorem okOrClamped_code_of_ne (v raw : Nat) : (okOrClamped (v != raw)).code = if v = raw then 0x00 else 0x01 := by
  by_cases h : v = raw
  · rw [if_pos h, h, bne_self_eq_false]; rfl
  · rw [if_neg h, bne_iff_ne.mpr h]; rfl

theorem claim_eq {before after : List Slot} {raw v : Nat} (hq : s.washQ = before ++ i :: after) (hb : i ∉ before)
    (ha : i ∉ after) (hraw : raw = s.speedFor i) (hv : v = clampTo (s.item .vMin) (s.item .vMax) raw) :
    State.granted (s.claim i) .W = State.replied { s.modPlate i fun p =>
        { p with
          state := .washing
          speed := some v
          marks := { p.marks with
            washShort := p.marks.washShort || decide (raw < s.item .vMin)
            washLong := p.marks.washLong || decide (s.item .vMax < raw) } } with
      washQ := before ++ after
      transit := s.transit ++ [⟨i, 2 * ((60 * s.item .brushLen + v - 1) / v) + s.item .washTail, false⟩] } .W
      (if v = raw then 0x00 else 0x01) (nameOf i :: word2 v) := by
  have hleave : s.leaveList .wash i = { s with washQ := before ++ after } := State.leaveList_of_split hq hb ha
  rw [State.claim, State.granted_mk, hleave, ← hraw, clampSpeed, ← hv, okOrClamped_code_of_ne, overdueTime_eq,
    beBytes_two]
  simp only [Marks.addIf_wash]
  rfl

/-- Settles O43, check by check. -/
theorem washClaimAdmitsAPlate : Obligations.WashClaimAdmitsAPlate := by
  intro s b hg
  rw [exec_washClaim b hg]
  refine ⟨fun h hn => ?_, fun h => ⟨fun hu => ?_, fun hs => ?_, fun ho => ⟨fun hr => ?_, fun hr => ⟨?_, ?_, ?_⟩⟩⟩⟩
  · rw [washClaimEffect_of_bad (slotCode_of_gt h hn)]; rfl
  · rw [washClaimEffect_of_unknown (slotCode_ne_bad h) hu]; rfl
  · rw [washClaimEffect_of_spent (slotCode_ne_bad h) hs]; rfl
  · rw [washClaimEffect_of_full (slotCode_ne_bad h) ho hr]; rfl
  · rintro rfl hq
    rw [washClaimEffect_of_empty ho hr slotCode_next hq]; rfl
  · intro i hi hs
    rw [washClaimEffect_of_other ho hr (slotCode_of_lt hi) hs]; rfl
  · rintro i before after m _ _ _ raw v hi hq hb ha hm rfl rfl rfl hraw hv
    have hclaim : washClaimEffect b s = s.claim i := by
      rcases hi with ⟨rfl, rfl⟩ | ⟨hi, hs⟩
      · exact washClaimEffect_of_head ho hr slotCode_next hq
      · exact washClaimEffect_of_exposed ho hr (slotCode_of_lt hi) hs
    have hspeed : raw = s.speedFor i := by
      rw [hraw, State.speedFor_eq, State.projectedLoading_of_known hm]
    rw [hclaim, claim_eq hq hb ha hspeed hv]

end

end Sys2Proof.Machine
end

-- ==== Sys2Proof/Proofs/Y ====
section
/-! The end of a sensor read (R106, R110 to R115): the state that a credited reading leaves, the run that ends with
it, and the tests for REACHED and TIME_LIMIT. -/

namespace Sys2Proof.Machine

section
variable {s t : State} {c d : Chan} {i : Slot} {k x y : Channel} {answer : Option Word} {st : ChanState}
  {res : Option StopResult}

theorem exec_sensorReadComplete (answer : Option Word) (h : s.rstLow = false) :
    exec (.sensorReadComplete answer) s = .next (s.readComplete answer) :=
  congrArg Host.Outcome.next (if_neg (by simp [h]))

/-! ### The state that a read leaves -/

/-- The state with the link idle after a read of a channel, and that channel's record replaced. -/
def State.afterRead (s : State) (c : Chan) (x : Channel) (answer : Option Word) : State :=
  { s with link := s.link.ended c answer, chans := s.chans.set c.index x }

theorem endRead_eq (s : State) (r : LinkRead) (answer : Option Word) :
    s.endRead r answer = s.afterRead r.chan { s.chan r.chan with readOutstanding := false } answer := rfl

theorem afterRead_modChan (s : State) (c : Chan) (x : Channel) (answer : Option Word) (f : Channel → Channel) :
    (s.afterRead c x answer).modChan c f = s.afterRead c (f x) answer := by
  simp [State.afterRead, State.modChan]

theorem afterRead_modPlate (s : State) (c : Chan) (x : Channel) (answer : Option Word) (i : Slot) (f : Plate → Plate) :
    (s.afterRead c x answer).modPlate i f = (s.modPlate i f).afterRead c x answer := rfl

@[simp] theorem afterRead_chan_self (s : State) (c : Chan) (x : Channel) (answer : Option Word) :
    (s.afterRead c x answer).chan c = x := by
  simp [State.afterRead, State.chan]

theorem afterRead_chan_ne (s : State) (x : Channel) (answer : Option Word) (h : d ≠ c) :
    (s.afterRead c x answer).chan d = s.chan d :=
  State.chan_modChan_ne (s := s) (f := fun _ => x) h

/-! ### The records and the link of a run that is over -/

theorem chanAt_index (c : Chan) : chanAt c.index = c := by cases c <;> rfl

theorem mapChans_chan (s : State) (f : Chan → Channel → Channel) (c : Chan) :
    (s.mapChans f).chan c = f c (s.chan c) := by
  simp [State.mapChans, State.chan, chanAt_index]

theorem Link.without_none (k : Link) : k.without (fun e => decide (none = some e)) = k := by
  have hdue : (k.without fun e => decide (none = some e)).due = k.due := by
    ext n hn : 1
    simp [Link.without]
  have hbusy : (k.without fun e => decide (none = some e)).busy = k.busy := by
    cases hb : k.busy <;> simp [Link.without, hb]
  exact congrArg₂ (fun due busy => Link.mk busy due k.wire) hdue hbusy

theorem Link.without_some (k : Link) (d : Chan) : k.without (fun e => decide (some d = some e)) = k.drop d := by
  have hdue : (k.without fun e => decide (some d = some e)).due = (k.drop d).due := by
    ext n hn : 1
    cases d <;> interval_cases n <;> simp [Link.without, Link.drop, Chan.index, chanAt]
  have hbusy : (k.without fun e => decide (some d = some e)).busy = (k.drop d).busy := by
    cases hb : k.busy with
    | none => simp [Link.without, Link.drop, hb]
    | some r =>
      by_cases h : r.chan = d
      · simp [Link.without, Link.drop, hb, h]
      · simp [Link.without, Link.drop, hb, h, Ne.symm h]
  exact congrArg₂ (fun due busy => Link.mk busy due k.wire) hdue hbusy

/-- The record of a channel whose run is over. -/
def Channel.over (k : Channel) (st : ChanState) (res : Option StopResult) : Channel :=
  { k with state := st, result := res, interval := none, readOutstanding := false }

theorem runOver_of_single (s : State) (c : Chan) (answer : Option Word) (h : y.partner = none) :
    s.runOver c y answer = s.afterRead c y answer := by
  have hrecords : (fun d k => if d = c then y else if y.partner = some d then
      { k with state := y.state, result := y.result, interval := none, readOutstanding := false } else k)
      = fun d k => if d = c then y else k := by
    simp [h]
  rw [State.runOver, hrecords, h, Link.without_none, ← modChan_eq_mapChans _ c fun _ => y]
  rfl

theorem runOver_of_pair (s : State) (answer : Option Word) (h : y.partner = some d) (hd : d ≠ c) :
    s.runOver c y answer = (s.afterRead c y answer).dropped d ((s.chan d).over y.state y.result) := by
  have hrecords : (fun e k => if e = c then y else if y.partner = some e then
      { k with state := y.state, result := y.result, interval := none, readOutstanding := false } else k)
      = fun e k => if e = d then (if e = c then y else k).over y.state y.result else if e = c then y else k := by
    funext e k
    by_cases hc : e = c
    · simp [hc, Ne.symm hd]
    · by_cases he : e = d
      · simp [he, hd, h, Channel.over]
      · simp [hc, he, h, Ne.symm he]
  rw [State.runOver, hrecords, h, Link.without_some,
    ← mapChans_mapChans _ (fun e k => if e = c then y else k) (fun e k => if e = d then k.over y.state y.result else k),
    ← modChan_eq_mapChans _ c fun _ => y, ← modChan_eq_mapChans _ d fun k => k.over y.state y.result,
    ← afterRead_chan_ne s y answer hd]
  rfl

theorem runOver_slot_self (s : State) (c : Chan) (y : Channel) (answer : Option Word) :
    ((s.runOver c y answer).chan c).slot = y.slot := by
  rw [State.runOver, mapChans_chan, if_pos rfl]

theorem runOver_slot_partner (s : State) (answer : Option Word) (h : y.partner = some d) (hd : d ≠ c) :
    ((s.runOver c y answer).chan d).slot = (s.chan d).slot := by
  rw [State.runOver, mapChans_chan, if_neg hd, if_pos h]
  rfl

/-! ### Channels that end at an idle link -/

/-- A channel ends with its read withdrawn. -/
def State.overChan (s : State) (st : ChanState) (res : Option StopResult) (c : Chan) : State :=
  s.dropped c ((s.chan c).over st res)

theorem overChan_busy (h : s.link.busy = none) (st : ChanState) (res : Option StopResult) (c : Chan) :
    (s.overChan st res c).link.busy = none := by
  simp [State.overChan, State.dropped, Link.drop, h]

theorem stopChan_of_idle_link (h : s.link.busy = none) (res : StopResult) (c : Chan) :
    s.stopChan res c = s.overChan .stopped (some res) c := by
  simp [State.stopChan, State.withdraw, State.modChan, State.overChan, State.dropped, State.linkCarries, State.chan,
    Channel.over, h]

theorem failChan_of_idle_link (h : s.link.busy = none) (hr : (s.chan c).result = res) :
    s.failChan c = s.overChan .failed res c := by
  subst hr
  simp [State.failChan, State.withdraw, State.modChan, State.overChan, State.dropped, State.linkCarries, State.chan,
    Channel.over, h]

theorem foldl_stopChan (h : s.link.busy = none) (res : StopResult) (run : List Chan) :
    run.foldl (fun t d => t.stopChan res d) s = run.foldl (fun t d => t.overChan .stopped (some res) d) s := by
  induction run generalizing s with
  | nil => rfl
  | cons c run ih => rw [List.foldl_cons, List.foldl_cons, stopChan_of_idle_link h, ih (overChan_busy h ..)]

theorem foldl_failChan {run : List Chan} (h : s.link.busy = none) (hr : ∀ d ∈ run, (s.chan d).result = res) :
    run.foldl State.failChan s = run.foldl (fun t d => t.overChan .failed res d) s := by
  induction run generalizing s with
  | nil => rfl
  | cons c run ih =>
    have hrest : ∀ d ∈ run, ((s.overChan .failed res c).chan d).result = res := fun d hd => by
      by_cases hc : d = c
      · rw [hc, State.overChan, dropped_chan_self]; rfl
      · rw [State.overChan, dropped_chan_ne _ _ hc, hr d (List.mem_cons_of_mem _ hd)]
    rw [List.foldl_cons, List.foldl_cons, failChan_of_idle_link h (hr c (List.mem_cons_self ..)),
      ih (overChan_busy h ..) hrest]

/-! ### What the owning block notes (R82, R158) -/

theorem noted_nil (s : State) (short failure : Bool) : s.noted [] short failure = s := by
  simp [State.noted]

theorem noted_noted (s : State) (c : Chan) (run : List Chan) (short failure : Bool) :
    (s.noted [c] short failure).noted run short failure = s.noted (c :: run) short failure := by
  simp [State.noted, Bool.and_or_distrib_left, Bool.or_assoc]

theorem laneIds_differ : (LaneId.a == LaneId.b) = false ∧ (LaneId.b == LaneId.a) = false := ⟨rfl, rfl⟩

theorem noteShort_eq (s : State) (c : Chan) : s.noteShort c = s.noted [c] true false := by
  cases c <;> simp [State.noteShort, State.noted, Chan.lane, FrameUnit.modLane, laneIds_differ]

theorem noteFailure_eq (s : State) (c : Chan) : s.noteFailure c = s.noted [c] false true := by
  cases c <;> simp [State.noteFailure, State.noted, Chan.lane, FrameUnit.modLane, laneIds_differ]

theorem foldl_noteShort (s : State) (run : List Chan) : run.foldl State.noteShort s = s.noted run true false := by
  induction run generalizing s with
  | nil => exact (noted_nil ..).symm
  | cons c run ih => rw [List.foldl_cons, ih, noteShort_eq, noted_noted]

theorem foldl_noteFailure (s : State) (run : List Chan) : run.foldl State.noteFailure s = s.noted run false true := by
  induction run generalizing s with
  | nil => exact (noted_nil ..).symm
  | cons c run ih => rw [List.foldl_cons, ih, noteFailure_eq, noted_noted]

/-! ### The plate, the event and the bank of a run -/

theorem Plate.mark_addDose (p : Plate) (ph : Phase) (n : Nat) (m : Mark) :
    (p.addDose ph n).mark m = (p.mark m).addDose ph n := by
  cases ph <;> rfl

theorem deliver_of_slot (h : (s.chan c).slot = some i) (n : Nat) :
    s.deliver c n = s.modPlate i fun p => p.addDose c.phase n := by
  rw [State.deliver, h]; rfl

theorem markPlate_of_slot (h : (s.chan c).slot = some i) (m : Mark) :
    s.markPlate c m = s.modPlate i fun p => p.mark m := by
  rw [State.markPlate, h]; rfl

theorem postStop_of_slot (h : (s.chan c).slot = some i) (code : Nat) :
    s.postStop c code = s.post c.port ⟨.channelStop, some i, code * 16 + c.index⟩ := by
  rw [State.postStop, h]

theorem learnReference_eq (s : State) (b : Bank) (m f : Nat) : s.learnReference b m f
    = s.modBank b fun k => { k with ref := if 0 < f then some (max 1 (roundDiv m f)) else k.ref } := by
  by_cases h : 0 < f
  · rw [State.learnReference, if_pos h]
    simp only [if_pos h]
    rfl
  · have hsame : s.modBank b (fun k => k) = s := by simp [State.modBank]
    rw [State.learnReference, if_neg h]
    simp only [if_neg h]
    exact hsame.symm

/-- The count is delivered, the bank learns, and the stop is posted (R114). -/
theorem deliver_learn_postStop (hc : (s.chan c).slot = some i) (hd : (s.chan d).slot = some i) (m f code : Nat) :
    ((s.deliver c m).learnReference c.bank m f).postStop d code
      = ((s.modPlate i fun p => p.addDose c.phase m).modBank c.bank fun b =>
          { b with ref := if 0 < f then some (max 1 (roundDiv m f)) else b.ref }).post d.port
            ⟨.channelStop, some i, code * 16 + d.index⟩ := by
  rw [deliver_of_slot hc, learnReference_eq]
  exact postStop_of_slot (s := State.modBank (State.modPlate _ _ _) _ _) hd code

/-- The count is delivered, the plate is marked, and the stop is posted (R112, R114). -/
theorem deliver_mark_postStop (hc : (s.chan c).slot = some i) (hd : (s.chan d).slot = some i) (m code : Nat)
    (k : Mark) : ((s.deliver c m).markPlate c k).postStop d code
      = (s.modPlate i fun p => (p.addDose c.phase m).mark k).post d.port
          ⟨.channelStop, some i, code * 16 + d.index⟩ := by
  have hmark : (s.deliver c m).markPlate c k = s.modPlate i fun p => (p.addDose c.phase m).mark k := by
    rw [deliver_of_slot hc, markPlate_of_slot (s := State.modPlate _ _ _) hc, State.modPlate_modPlate]
  rw [hmark]
  exact postStop_of_slot (s := State.modPlate _ _ _) hd code

theorem reportedChan_cases (s : State) (c : Chan) :
    s.reportedChan c = c ∨ (s.chan c).partner = some (s.reportedChan c) := by
  unfold State.reportedChan
  split
  next d h =>
    unfold lowerChan
    split
    · exact .inr h
    · exact .inl rfl
  · exact .inl rfl

/-! ### Runs that end after a read -/

/-- The state t has a channel c whose reading has come and whose record is then x: it counts for the plate i, alone or
with a partner that counts for the same plate, and has no further request. -/
structure State.Counts (t : State) (c : Chan) (x : Channel) (i : Slot) : Prop where
  slot : x.slot = some i
  due : t.link.due[c.index] = none
  ne : ∀ d, x.partner = some d → d ≠ c
  port : ∀ d, x.partner = some d → d.port = c.port
  shared : ∀ d, x.partner = some d → (t.chan d).slot = some i

theorem afterRead_runOf (t : State) (c : Chan) (x : Channel) (answer : Option Word) :
    (t.afterRead c x answer).runOf c = c :: x.partner.toList := by
  rw [State.runOf, afterRead_chan_self]
  cases x.partner <;> rfl

theorem afterRead_dropped (h : t.link.due[c.index] = none) (x y : Channel) (answer : Option Word) :
    (t.afterRead c x answer).dropped c y = t.afterRead c y answer := by
  have hdue : t.link.due.set c.index none = t.link.due := by rw [← h]; simp
  simp [State.afterRead, State.dropped, Link.ended, Link.drop, hdue]

namespace State.Counts
variable (h : t.Counts c x i)
include h

theorem modPlate (f : Plate → Plate) : (t.modPlate i f).Counts c x i := ⟨h.slot, h.due, h.ne, h.port, h.shared⟩

theorem overRun (st : ChanState) (res : Option StopResult) (answer : Option Word) :
    (c :: x.partner.toList).foldl (fun u d => u.overChan st res d) (t.afterRead c x answer)
      = t.runOver c (x.over st res) answer := by
  have hfirst : (t.afterRead c x answer).overChan st res c = t.afterRead c (x.over st res) answer := by
    rw [State.overChan, afterRead_chan_self, afterRead_dropped h.due]
  rw [List.foldl_cons, hfirst]
  cases hp : x.partner with
  | none => exact (runOver_of_single (y := x.over st res) t c answer hp).symm
  | some d =>
    have hd := h.ne d hp
    calc (t.afterRead c (x.over st res) answer).overChan st res d
        = (t.afterRead c (x.over st res) answer).dropped d ((t.chan d).over st res) := by
          rw [State.overChan, afterRead_chan_ne _ _ _ hd]
      _ = t.runOver c (x.over st res) answer := (runOver_of_pair (y := x.over st res) t answer hp hd).symm

/-- Each channel of the run names the plate, also once the run is over. -/
theorem runOver_slot (hd : d = c ∨ x.partner = some d) (st : ChanState) (res : Option StopResult)
    (answer : Option Word) : ((t.runOver c (x.over st res) answer).chan d).slot = some i := by
  rcases hd with rfl | hd
  · rw [runOver_slot_self]; exact h.slot
  · rw [runOver_slot_partner (y := x.over st res) t answer hd (h.ne d hd), h.shared d hd]

theorem port_of_run (hd : d = c ∨ x.partner = some d) : d.port = c.port := hd.elim (congrArg Chan.port) (h.port d)

theorem stopReached {m f : Nat} {first : Chan} (hm : m = (t.afterRead c x answer).runAccumulator c)
    (hf : f = (t.afterRead c x answer).refElapsed c) (hfirst : first = (t.afterRead c x answer).reportedChan c) :
    (t.afterRead c x answer).stopReached c
      = (((t.modPlate i fun p => p.addDose c.phase m).modBank c.bank fun b =>
          { b with ref := if 0 < f then some (max 1 (roundDiv m f)) else b.ref }).runOver c
            (x.over .stopped (some .reached)) answer).post c.port ⟨.channelStop, some i, first.index⟩ := by
  have hrun : first = c ∨ x.partner = some first := by
    simpa [← hfirst] using reportedChan_cases (t.afterRead c x answer) c
  have hslot {d : Chan} (hd : d = c ∨ x.partner = some d) := h.runOver_slot hd .stopped (some .reached) answer
  rw [State.stopReached, ← hm, ← hf, ← hfirst, afterRead_runOf, foldl_stopChan rfl, h.overRun,
    deliver_learn_postStop (hslot (.inl rfl)) (hslot hrun), h.port_of_run hrun, StopResult.code, Nat.zero_mul,
    Nat.zero_add]
  rfl

theorem stopTimeLimit {m : Nat} {first : Chan} (hm : m = (t.afterRead c x answer).runAccumulator c)
    (hfirst : first = (t.afterRead c x answer).reportedChan c) :
    (t.afterRead c x answer).stopTimeLimit c
      = (((t.modPlate i fun p => (p.addDose c.phase m).mark .doseShort).runOver c
          (x.over .stopped (some .timeLimit)) answer).post c.port ⟨.channelStop, some i, 16 + first.index⟩).noted
            (c :: x.partner.toList) true false := by
  have hrun : first = c ∨ x.partner = some first := by
    simpa [← hfirst] using reportedChan_cases (t.afterRead c x answer) c
  have hslot {d : Chan} (hd : d = c ∨ x.partner = some d) := h.runOver_slot hd .stopped (some .timeLimit) answer
  rw [State.stopTimeLimit, ← hm, ← hfirst, afterRead_runOf, foldl_stopChan rfl, h.overRun, foldl_noteShort,
    deliver_mark_postStop (hslot (.inl rfl)) (hslot hrun), h.port_of_run hrun]
  rfl

theorem failRun {m : Nat} (hres : ∀ d, d = c ∨ x.partner = some d → ((t.afterRead c x answer).chan d).result = res)
    (hm : m = (t.afterRead c x answer).runAccumulator c) :
    (t.afterRead c x answer).failRun c
      = (((t.modPlate i fun p => (p.addDose c.phase m).mark .sensorFail).runOver c (x.over .failed res) answer).post
          c.port ⟨.channelStop, some i, 48 + c.index⟩).noted (c :: x.partner.toList) false true := by
  have hslot := h.runOver_slot (.inl rfl) .failed res answer
  have hall : ∀ d ∈ c :: x.partner.toList, ((t.afterRead c x answer).chan d).result = res := by
    simpa using hres
  rw [State.failRun, ← hm, afterRead_runOf, foldl_failChan rfl hall, h.overRun, foldl_noteFailure,
    deliver_mark_postStop hslot hslot]
  rfl

end State.Counts

/-! ### The figures that a run is judged by (R50, R113 to R115) -/

/-- The figures m, e, f and the channel named by a stop, of a run whose channel c has the record x: its own, or the
smaller ones of its pair. -/
theorem figures_of_run {m e f : Nat} {first : Chan} (hne : ∀ d, x.partner = some d → d ≠ c)
    (h : (x.partner = none ∧ m = x.accumulator ∧ e = x.elapsed ∧ f = x.elapsed ∧ first = c)
      ∨ ∃ d, x.partner = some d ∧ m = min x.accumulator (t.chan d).accumulator
        ∧ e = min x.elapsed (t.chan d).elapsed
        ∧ f = (if x.accumulator < (t.chan d).accumulator ∨ x.accumulator = (t.chan d).accumulator ∧ c.index < d.index
          then x.elapsed else (t.chan d).elapsed)
        ∧ first = if c.index < d.index then c else d) :
    m = (t.afterRead c x answer).runAccumulator c ∧ e = (t.afterRead c x answer).runElapsed c
      ∧ f = (t.afterRead c x answer).refElapsed c ∧ first = (t.afterRead c x answer).reportedChan c := by
  rcases h with ⟨hp, rfl, rfl, rfl, rfl⟩ | ⟨d, hp, rfl, rfl, rfl, rfl⟩
  · simp [State.runAccumulator, State.runElapsed, State.refElapsed, State.reportedChan, hp]
  · have hd := hne d hp
    have hidx : c.index ≠ d.index := fun hi => hd (Chan.index_injective hi).symm
    simp only [State.runAccumulator, State.runElapsed, State.refElapsed, State.reportedChan, lowerChan, higherChan,
      afterRead_chan_self, hp, afterRead_chan_ne t x answer hd, true_and]
    by_cases hlt : c.index < d.index
    · have hge : ¬ d.index < c.index := lt_asymm hlt
      simp only [hlt, hge, if_true, if_false, and_true, afterRead_chan_self, afterRead_chan_ne t x answer hd]
      split <;> split <;> omega
    · have hgt : d.index < c.index := lt_of_le_of_ne (not_lt.mp hlt) (Ne.symm hidx)
      simp only [hlt, hgt, if_true, if_false, and_true, and_false, or_false, afterRead_chan_self,
        afterRead_chan_ne t x answer hd]

/-! ### The credit of a reading (R48, R110, R111) -/

/-- A plate's record after a reading: SENSOR_SAT joins its marks when the reading is at the top of the range. -/
def Plate.read (p : Plate) (answer : Option Word) : Plate :=
  { p with marks := { p.marks with sensorSat := p.marks.sensorSat || decide (answer = some 65535) } }

/-- A channel's record with a reading credited, as good or bad. -/
def Channel.credited (k : Channel) (reading ts good bad : Nat) : Channel :=
  { k with
    accumulator := doseAdd k.accumulator (reading * ts)
    elapsed := k.elapsed + ts
    lastGood := good
    badCount := bad
    readOutstanding := false }

theorem Plate.read_top (p : Plate) : p.read (some 65535) = p.mark .sensorSat := by
  simp [Plate.read, Plate.mark, Marks.add]

theorem modPlate_read_of_below (s : State) (i : Slot) (h : answer ≠ some 65535) :
    (s.modPlate i fun p => p.read answer) = s :=
  State.modPlate_of_fixed (by rw [Plate.read, decide_eq_false h, Bool.or_false])

section
variable {r : LinkRead}

theorem creditRead_of_discarded (h : r.live = false ∨ (s.chan r.chan).state ≠ .running) :
    s.creditRead r answer = s := if_neg (by simpa [or_iff_not_imp_left] using h)

variable (hl : r.live = true) (hrun : (s.chan r.chan).state = .running)
include hl hrun

theorem endRead_credits : (r.live && ((s.endRead r answer).chan r.chan).state == .running) = true := by
  rw [endRead_eq, afterRead_chan_self]
  simp [hl, hrun]

theorem creditRead_of_good (hs : (s.chan r.chan).slot = some i) (v : Word) :
    (s.endRead r (some v)).creditRead r (some v)
      = ((s.modPlate i fun p => p.read (some v)).afterRead r.chan
          ((s.chan r.chan).credited v.toNat r.ts v.toNat 0) (some v)).testRun r.chan := by
  have htop : v.toNat = sensorTop ↔ some v = some (65535 : Word) := by
    rw [Option.some_inj, ← BitVec.toNat_inj]; rfl
  rw [State.creditRead, if_pos (endRead_credits hl hrun), endRead_eq]
  simp only [State.goodSample, afterRead_modChan]
  by_cases hv : v.toNat = sensorTop
  · rw [if_pos hv, markPlate_of_slot (i := i) (by rw [afterRead_chan_self]; exact hs), afterRead_modPlate,
      State.creditSample, afterRead_modChan, htop.mp hv]
    simp only [Plate.read_top]
    rfl
  · rw [if_neg hv, modPlate_read_of_below s i (mt htop.mpr hv), State.creditSample, afterRead_modChan]
    rfl

theorem creditRead_of_bad (hbad : (s.chan r.chan).badCount < 2) :
    (s.endRead r none).creditRead r none = (s.afterRead r.chan ((s.chan r.chan).credited (s.chan r.chan).lastGood r.ts
      (s.chan r.chan).lastGood ((s.chan r.chan).badCount + 1)) none).testRun r.chan := by
  rw [State.creditRead, if_pos (endRead_credits hl hrun), endRead_eq]
  simp only [State.badSample, afterRead_modChan, afterRead_chan_self]
  rw [if_pos hbad, State.creditSample, afterRead_modChan]
  rfl

theorem creditRead_of_failed (hbad : 2 ≤ (s.chan r.chan).badCount) :
    (s.endRead r none).creditRead r none = ((s.afterRead r.chan
      { s.chan r.chan with badCount := (s.chan r.chan).badCount + 1, readOutstanding := false } none).failRun
        r.chan).checkPhase r.chan := by
  rw [State.creditRead, if_pos (endRead_credits hl hrun), endRead_eq]
  simp only [State.badSample, afterRead_modChan, afterRead_chan_self]
  rw [if_neg (Nat.not_lt.mpr hbad)]

end

/-! ### The tests (R113) -/

section
variable {need limit : Nat}

theorem testRun_of_reached (hn : (s.chan c).need = some need) (h : need ≤ s.runAccumulator c) :
    s.testRun c = (s.stopReached c).checkPhase c := by
  rw [State.testRun, hn]
  exact if_pos h

theorem testRun_of_timeLimit (hn : (s.chan c).need = some need) (hl : (s.chan c).limit = some limit)
    (h : s.runAccumulator c < need) (he : limit ≤ s.runElapsed c) : s.testRun c = (s.stopTimeLimit c).checkPhase c := by
  rw [State.testRun, hn, hl]
  exact (if_neg (Nat.not_le.mpr h)).trans (if_pos he)

theorem testRun_of_neither (hn : (s.chan c).need = some need) (hl : (s.chan c).limit = some limit)
    (h : s.runAccumulator c < need) (he : s.runElapsed c < limit) : s.testRun c = s := by
  rw [State.testRun, hn, hl]
  exact (if_neg (Nat.not_le.mpr h)).trans (if_neg (Nat.not_le.mpr he))

end

/-! ### The run of a channel whose read is on the link (R101, R106, R107) -/

/-- A RUNNING channel whose read is on the link counts for its plate, alone or with its partner. -/
theorem LightOk.counts {r : LinkRead} (h : LightOk s) (hb : s.link.busy = some r)
    (hs : (s.chan r.chan).slot = some i) (hslot : x.slot = (s.chan r.chan).slot)
    (hpart : x.partner = (s.chan r.chan).partner) : s.Counts r.chan x i where
  slot := hslot.trans hs
  due := by
    by_contra hdue
    have hout := (h.due r.chan (Option.isSome_iff_ne_none.mpr hdue)).2.2
    simp [State.linkCarries, hb] at hout
  ne d hd := by
    rintro rfl
    have hof := (h.pairs _ _ (hpart ▸ hd)).1
    cases hc : r.chan <;> simp [hc, Chan.partnerOf] at hof
  port d hd := by
    have hof := (h.pairs _ _ (hpart ▸ hd)).1
    cases hc : r.chan <;> simp [hc, Chan.partnerOf] at hof <;> subst hof <;> rfl
  shared d hd := by
    obtain ⟨-, -, -, hshared, -⟩ := h.pairs _ _ (hpart ▸ hd)
    exact hshared.trans hs

theorem LightOk.result_of_running (h : LightOk s) (hrun : (s.chan c).state = .running) : (s.chan c).result = none := by
  by_contra hres
  have hstop := (h.records c).result.mp (Option.isSome_iff_ne_none.mpr hres)
  simp [hrun] at hstop

/-- The two channels of a RUNNING pair have no result, so a failure leaves them the same (R112). -/
theorem LightOk.result_of_run (h : LightOk s) (hrun : (s.chan c).state = .running) (hres : x.result = (s.chan c).result)
    (hpart : x.partner = (s.chan c).partner) (hne : ∀ d, x.partner = some d → d ≠ c) :
    ∀ d, d = c ∨ x.partner = some d → ((s.afterRead c x answer).chan d).result = (s.chan c).result := by
  rintro d (rfl | hd)
  · rw [afterRead_chan_self, hres]
  · obtain ⟨-, -, hst, -⟩ := h.pairs c d (hpart ▸ hd)
    rw [afterRead_chan_ne _ _ _ (hne d hd), h.result_of_running (hst.trans hrun), h.result_of_running hrun]

/-! ### The statement -/

section
variable {r : LinkRead} (hb : s.link.busy = some r)
include hb

theorem readComplete_of_busy (answer : Option Word) :
    s.readComplete answer = (s.endRead r answer).creditRead r answer := by
  simp only [State.readComplete, hb]

theorem readComplete_of_discarded (h : r.live = false ∨ (s.chan r.chan).state ≠ .running) (answer : Option Word) :
    s.readComplete answer = s.endRead r answer := by
  rw [readComplete_of_busy hb, creditRead_of_discarded (by rw [endRead_eq, afterRead_chan_self]; exact h)]

/-- A reading, or the last good one in its place, is credited, and the run is tested (R48, R110, R111). -/
theorem readComplete_of_credited {reading good bad : Nat} (hl : r.live = true)
    (hrun : (s.chan r.chan).state = .running) (hs : (s.chan r.chan).slot = some i)
    (h : (∃ v, answer = some v ∧ reading = v.toNat ∧ good = v.toNat ∧ bad = 0)
      ∨ (answer = none ∧ (s.chan r.chan).badCount < 2 ∧ reading = (s.chan r.chan).lastGood
        ∧ good = (s.chan r.chan).lastGood ∧ bad = (s.chan r.chan).badCount + 1)) :
    s.readComplete answer = ((s.modPlate i fun p => p.read answer).afterRead r.chan
      ((s.chan r.chan).credited reading r.ts good bad) answer).testRun r.chan := by
  rw [readComplete_of_busy hb]
  rcases h with ⟨v, rfl, rfl, rfl, rfl⟩ | ⟨rfl, hbad, rfl, rfl, rfl⟩
  · exact creditRead_of_good hl hrun hs v
  · rw [creditRead_of_bad hl hrun hbad, modPlate_read_of_below s i (by simp)]

end

/-- Settles O52: a reading is discarded, credited and tested, or the third bad one that fails the run. -/
theorem aReadingIsCreditedAndTested : Obligations.AReadingIsCreditedAndTested := by
  refine ⟨fun s answer hr hb => ?_, ?_⟩
  · rw [exec_sensorReadComplete answer hr, State.readComplete, hb]
  rintro s r answer k hr hb rfl
  rw [exec_sensorReadComplete answer hr]
  refine ⟨fun h => ?_, fun hlive hrun hl i need limit hs hn hlim => ⟨?_, ?_⟩⟩
  · rw [readComplete_of_discarded hb h]; rfl
  · rintro reading bad good _ _ m e f first _ _ hread rfl rfl hfig rfl rfl
    have hc := hl.counts (x := (s.chan r.chan).credited reading r.ts good bad) hb hs rfl rfl
    have hc := hc.modPlate fun p => p.read answer
    obtain ⟨hm, he, hf, hfirst⟩ := figures_of_run (answer := answer) hc.ne hfig
    have hx := afterRead_chan_self (s.modPlate i fun p => p.read answer) r.chan
      ((s.chan r.chan).credited reading r.ts good bad) answer
    have hneed := (congrArg Channel.need hx).trans hn
    have hlimit := (congrArg Channel.limit hx).trans hlim
    rw [readComplete_of_credited hb hlive hrun hs hread]
    refine ⟨fun hlt hle => ?_, fun hge => ?_, fun hlt hge => ?_⟩
    · rw [testRun_of_neither hneed hlimit (hm ▸ hlt) (he ▸ hle)]
      rfl
    · rw [testRun_of_reached hneed (hm ▸ hge), hc.stopReached hm hf hfirst, State.modPlate_modPlate]
      rfl
    · rw [testRun_of_timeLimit hneed hlimit (hm ▸ hlt) (he ▸ hge), hc.stopTimeLimit hm hfirst,
        State.modPlate_modPlate]
      simp only [Plate.mark_addDose]
      rfl
  · rintro m rfl hbad hm
    have hc := hl.counts hb hs rfl rfl
      (x := { s.chan r.chan with badCount := (s.chan r.chan).badCount + 1, readOutstanding := false })
    rw [readComplete_of_busy hb, creditRead_of_failed hlive hrun hbad,
      hc.failRun (hl.result_of_run hrun rfl rfl hc.ne) (hm.trans ?_)]
    · simp only [Plate.mark_addDose]
      rfl
    · cases hp : (s.chan r.chan).partner with
      | none => simp [State.runAccumulator, hp]
      | some d => simp [State.runAccumulator, hp, afterRead_chan_ne _ _ _ (hc.ne d hp)]

end

end Sys2Proof.Machine
end

-- ==== Sys2Proof/Proofs/Z ====
section
/-! LOAD_REQ (R71 to R76): its checks, the plates that it places, and the pairing scan. -/

namespace Sys2Proof.Machine

section
variable {s : State} {mode : Byte} {head mate : Slot} {behind pre post : List Slot}

/-! ### The pairing scan (R71, R74, R75) -/

theorem State.fitsFrame_iff (s : State) (i : Slot) : s.fitsFrame i = true ↔
    (s.plate i).width ≤ 2 * s.item .laneWidth ∧ (s.plate i).length ≤ s.item .bedLength := by
  simp [State.fitsFrame]

/-- A narrow plate is within the frame's width, so that its length alone decides whether it fits. -/
theorem State.canPair_iff (s : State) (head j : Slot) : s.canPair head j = true ↔
    (s.plate j).width ≤ s.item .laneWidth ∧ (s.plate j).length ≤ s.item .bedLength
      ∧ compatible (s.item .pairTol) (s.plateEstimate head) (s.plateEstimate j) = true := by
  have hwide (h : (s.plate j).width ≤ s.item .laneWidth) : (s.plate j).width ≤ 2 * s.item .laneWidth := by omega
  simp only [State.canPair, Bool.and_eq_true, s.fitsFrame_iff, State.isNarrow, decide_eq_true_eq, and_assoc]
  exact and_congr_right fun h => and_iff_right (hwide h)

theorem pairingScan_of_first (hlen : pre.length < 4) (hpre : ∀ j ∈ pre, ¬ s.canPair head j = true)
    (hmate : s.canPair head mate = true) : s.pairingScan head (pre ++ mate :: post) = some mate := by
  obtain ⟨k, hk⟩ : ∃ k, 4 - pre.length = k + 1 := ⟨3 - pre.length, by omega⟩
  rw [State.pairingScan, List.take_append, List.take_of_length_le hlen.le, hk, List.take_succ_cons,
    List.find?_eq_some_iff_append]
  exact ⟨hmate, pre, _, rfl, fun j hj => by simpa using hpre j hj⟩

theorem pairingScan_of_none (h : ∀ j ∈ behind.take 4, ¬ s.canPair head j = true) : s.pairingScan head behind = none :=
  List.find?_eq_none.mpr h

/-! ### The plates placed (R73, R74) -/

theorem placeOnFrame_of_split (hq : s.exposureQ = pre ++ mate :: post) (hpre : mate ∉ pre) (hpost : mate ∉ post)
    (lane : LanePlace) : s.placeOnFrame mate lane
      = { s.modPlate mate fun p => { p with state := .onFrame, lane := some lane } with exposureQ := pre ++ post } := by
  rw [State.placeOnFrame, State.leaveList_of_split (l := .exposure) hq hpre hpost]
  rfl

/-! ### The checks (R72) -/

theorem loadReqEffect_of_badMode (h : 1 < mode.toNat) : loadReqEffect mode s = refuse .badParam s :=
  if_pos ((rushFlag_iff mode).mpr h)

section checks
variable (hm : mode.toNat ≤ 1)
include hm

theorem loadReqEffect_of_busy (h : s.frame.state ≠ .empty) : loadReqEffect mode s = refuse .badState s := by
  rw [loadReqEffect, if_neg (by rw [rushFlag_iff]; omega), if_pos (bne_iff_ne.mpr h)]

variable (he : s.frame.state = .empty)
include he

theorem loadReqEffect_of_noPlate (hq : s.exposureQ = []) : loadReqEffect mode s = refuse .queueEmpty s := by
  rw [loadReqEffect, if_neg (by rw [rushFlag_iff]; omega), if_neg (by simp [he]), hq]

theorem loadReqEffect_of_head (hq : s.exposureQ = head :: behind) : loadReqEffect mode s
    = if !s.fitsFrame head then refuse .badSize s else s.load head behind (mode == 1) := by
  rw [loadReqEffect, if_neg (by rw [rushFlag_iff]; omega), if_neg (by simp [he]), hq]

end checks

/-! ### The statement -/

section granted
variable (hq : s.exposureQ = head :: behind) (hnd : s.exposureQ.Nodup)
include hq hnd

theorem placeOnFrame_head (lane : LanePlace) : s.placeOnFrame head lane
    = { s.modPlate head fun p => { p with state := .onFrame, lane := some lane } with exposureQ := behind } :=
  placeOnFrame_of_split (pre := []) hq List.not_mem_nil (List.nodup_cons.mp (hq ▸ hnd)).1 lane

theorem load_wide_granted (hw : s.item .laneWidth < (s.plate head).width) (pair : Bool) :
    State.granted (s.load head behind pair) .E
      = State.replied { s.modPlate head fun p => { p with state := .onFrame, lane := some .both } with
          exposureQ := behind
          frame := ⟨.loaded, ⟨some head, false, false⟩, ⟨some head, false, false⟩⟩ } .E 0x00
          [nameOf head, nameOf head, 1] := by
  rw [State.load, if_pos (by simpa [State.isNarrow] using hw), placeOnFrame_head hq hnd]
  rfl

variable (hw : (s.plate head).width ≤ s.item .laneWidth)
include hw

theorem load_alone_granted (pair : Bool) (hscan : pair = true → s.pairingScan head behind = none) :
    State.granted (s.load head behind pair) .E
      = State.replied { s.modPlate head fun p => { p with state := .onFrame, lane := some .a } with
          exposureQ := behind
          frame := ⟨.loaded, ⟨some head, false, false⟩, ⟨none, false, false⟩⟩ } .E 0x00 [nameOf head, 0xFF, 0] := by
  have hnone : (if pair then s.pairingScan head behind else none) = none := ite_eq_right_iff.mpr hscan
  rw [State.load, if_neg (by simpa [State.isNarrow] using hw), hnone, placeOnFrame_head hq hnd]
  rfl

/-- The queue holds no plate twice, so that the partner alone leaves it behind the head. -/
theorem load_pair_granted (hb : behind = pre ++ mate :: post) (hscan : s.pairingScan head behind = some mate) :
    State.granted (s.load head behind true) .E
      = State.replied { (s.modPlate head fun p => { p with state := .onFrame, lane := some .a }).modPlate mate
            fun p => { p with state := .onFrame, lane := some .b } with
          exposureQ := pre ++ post
          frame := ⟨.loaded, ⟨some head, false, false⟩, ⟨some mate, false, false⟩⟩ } .E 0x00
          [nameOf head, nameOf mate, 0] := by
  have hmate : mate ∉ pre ++ post := by
    have hbehind : (pre ++ mate :: post).Nodup := hb ▸ (List.nodup_cons.mp (hq ▸ hnd)).2
    exact (List.nodup_middle.mp hbehind).notMem
  obtain ⟨hpre, hpost⟩ := not_or.mp (mt List.mem_append.mpr hmate)
  rw [State.load, if_neg (by simpa [State.isNarrow] using hw), if_pos rfl, hscan, placeOnFrame_head hq hnd]
  dsimp only
  rw [placeOnFrame_of_split hb hpre hpost]
  rfl

end granted

/-- Settles O34: the checks in order, then a wide head, a pair, and a narrow head alone. -/
theorem loadReqPlacesTheHead : Obligations.LoadReqPlacesTheHead := by
  refine ⟨fun s mode hg hm => ?_, fun s mode hg hm => ⟨fun hbusy => ?_, fun he => ⟨fun hq => ?_, ?_⟩⟩⟩
  · rw [exec_loadReq mode hg, loadReqEffect_of_badMode hm]; rfl
  · rw [exec_loadReq mode hg, loadReqEffect_of_busy hm hbusy]; rfl
  · rw [exec_loadReq mode hg, loadReqEffect_of_noPlate hm he hq]; rfl
  intro head behind hq hnd
  rw [exec_loadReq mode hg, loadReqEffect_of_head hm he hq]
  refine ⟨fun hbig => ?_, fun hwidth hlength => ?_⟩
  · rw [if_pos (by simpa [State.fitsFrame, imp_iff_not_or] using hbig)]; rfl
  have hfits : s.fitsFrame head = true := (s.fitsFrame_iff head).mpr ⟨hwidth, hlength⟩
  rw [if_neg (by simp [hfits])]
  refine ⟨fun hwide => ?_, fun hnarrow => ⟨?_, fun halone => ?_⟩⟩
  · rw [load_wide_granted hq hnd hwide]
  · rintro pre mate post rfl hb hlen hpre hw hl hc
    have hscan : s.pairingScan head behind = some mate := hb ▸ pairingScan_of_first hlen
      (fun j hj => mt (s.canPair_iff head j).mp (hpre j hj)) ((s.canPair_iff head mate).mpr ⟨hw, hl, hc⟩)
    exact congrArg _ (load_pair_granted hq hnd hnarrow hb hscan)
  · rw [load_alone_granted hq hnd hnarrow]
    intro hpair
    rcases halone with rfl | hnone
    · exact absurd hpair (by decide)
    · exact pairingScan_of_none fun j hj => mt (s.canPair_iff head j).mp (hnone j hj)

end

end Sys2Proof.Machine
end

section
/-! START_BACK and START_FACE (R80, R81, R83 to R86, R104): a channel that is started, alone or in a pair, and the end of
a phase with its last channel (R83, R86, R158). -/

namespace Sys2Proof.Machine

section
variable {s t : State} {a b c d : Chan} {i : Slot} {partner : Option Chan} {o : Option Slot} {need : Int}
  {needs : Slot → Int} {limits : Slot → Nat} {limit ts n : Nat}

/-! ### The end of a phase -/

/-- Settles O53, by the block that owns the channel. -/
theorem phasesEndWithTheirLastChannel : Obligations.PhasesEndWithTheirLastChannel := by
  refine fun s c => ⟨fun hc hs => ?_, fun hc hs => ?_, fun hc hs => ?_⟩
  · obtain ⟨l, hl⟩ := Option.isSome_iff_exists.mp hc
    simp only [State.checkPhase, hl, State.checkFramePhase, hs]
    rfl
  · obtain ⟨l, hl⟩ := Option.isSome_iff_exists.mp hc
    simp only [State.checkPhase, hl, State.checkFramePhase, hs]
    rfl
  · simp only [State.checkPhase, hc, State.checkFinishPhase, hs]

/-! ### Several events -/

theorem postAll_append (s : State) (p : Port) (es fs : List Event) :
    s.postAll p (es ++ fs) = (s.postAll p es).postAll p fs := List.foldl_append

/-- What no event changes, several do not change. -/
theorem postAll_keeps {α : Type} (g : State → α) (hg : ∀ t p e, g (State.post t p e) = g t) (s : State) (p : Port)
    (es : List Event) : g (s.postAll p es) = g s := by
  induction es generalizing s with
  | nil => rfl
  | cons e es ih => exact (ih _).trans (hg s p e)

/-- A change that goes before an event or behind it alike goes so with several. -/
theorem postAll_comm {f : State → State} (hf : ∀ t p e, f (State.post t p e) = State.post (f t) p e) (s : State) (p : Port)
    (es : List Event) : f (s.postAll p es) = (f s).postAll p es := by
  induction es generalizing s with
  | nil => rfl
  | cons e es ih => exact (ih _).trans (congrArg (State.postAll · p es) (hf s p e))

theorem postAll_modChan (s : State) (p : Port) (es : List Event) (c : Chan) (f : Channel → Channel) :
    (s.postAll p es).modChan c f = (s.modChan c f).postAll p es :=
  postAll_comm (f := fun t => t.modChan c f) (fun _ _ _ => rfl) s p es

theorem postAll_setFrameState (s : State) (p : Port) (es : List Event) (st : FrameState) :
    (s.postAll p es).setFrameState st = (s.setFrameState st).postAll p es :=
  postAll_comm (f := fun t => t.setFrameState st) (fun _ _ _ => rfl) s p es

@[simp] theorem postAll_chan (s : State) (p : Port) (es : List Event) (c : Chan) :
    (s.postAll p es).chan c = s.chan c := postAll_keeps (State.chan · c) (fun _ _ _ => rfl) s p es

@[simp] theorem postAll_link (s : State) (p : Port) (es : List Event) : (s.postAll p es).link = s.link :=
  postAll_keeps State.link (fun _ _ _ => rfl) s p es

@[simp] theorem postAll_frame (s : State) (p : Port) (es : List Event) : (s.postAll p es).frame = s.frame :=
  postAll_keeps State.frame (fun _ _ _ => rfl) s p es

@[simp] theorem postAll_plate (s : State) (p : Port) (es : List Event) (i : Slot) :
    (s.postAll p es).plate i = s.plate i := postAll_keeps (State.plate · i) (fun _ _ _ => rfl) s p es

@[simp] theorem postAll_plateType (s : State) (p : Port) (es : List Event) (i : Slot) :
    (s.postAll p es).plateType i = s.plateType i := postAll_keeps (State.plateType · i) (fun _ _ _ => rfl) s p es

@[simp] theorem postAll_intervalNow (s : State) (p : Port) (es : List Event) :
    (s.postAll p es).intervalNow = s.intervalNow := postAll_keeps State.intervalNow (fun _ _ _ => rfl) s p es

/-! ### A channel that is started (R104) -/

theorem startedChannel_eq (i : Slot) (partner : Option Chan) (need : Int) (limit ts : Nat) :
    startedChannel i partner need limit ts = startOutcome i partner need limit ts := by
  unfold startedChannel startOutcome
  by_cases h : 0 < need
  · simp only [if_pos h]; rfl
  · simp only [if_neg h]; rfl

/-- A channel started with no need has stopped REACHED at once. -/
theorem startOutcome_of_met (hn : ¬ 0 < need) : startOutcome i partner need limit ts
    = { state := .stopped, result := some .reached, slot := some i, partner := partner, limit := some limit } :=
  if_neg hn

@[simp] theorem startOutcome_slot : (startOutcome i partner need limit ts).slot = some i := by
  unfold startOutcome; split <;> rfl

@[simp] theorem startOutcome_partner : (startOutcome i partner need limit ts).partner = partner := by
  unfold startOutcome; split <;> rfl

@[simp] theorem startOutcome_accumulator : (startOutcome i partner need limit ts).accumulator = 0 := by
  unfold startOutcome; split <;> rfl

@[simp] theorem startOutcome_elapsed : (startOutcome i partner need limit ts).elapsed = 0 := by
  unfold startOutcome; split <;> rfl

theorem startOutcome_isActive : (startOutcome i partner need limit ts).state.isActive = decide (0 < need) := by
  unfold startOutcome; split <;> simp_all [ChanState.isActive]

/-- A channel that has just been started with no need is as its stop leaves it, where it has no request. -/
theorem stopChan_of_met (hq : s.link.drop c = s.link) (hn : ¬ 0 < need)
    (hc : s.chan c = startOutcome i partner need limit ts) : s.stopChan .reached c = s := by
  have hk : s.stopChan .reached c = s.dropped c (s.chan c) := by
    rw [startOutcome_of_met hn] at hc
    have hg : s.chans[c.index.val] = s.chan c := rfl
    simp [State.stopChan, State.withdraw, State.modChan, State.dropped, hg, hc]
  rw [hk, dropped_inactive hq]

/-- A run that stops REACHED at its start delivers nothing, and its bank learns nothing (R51, R114). -/
theorem stopReached_of_met (hrun : ∀ d ∈ s.runOf c, s.stopChan .reached d = s) (hslot : (s.chan c).slot = some i)
    (hacc : s.runAccumulator c = 0) (htime : s.refElapsed c = 0) (hrep : s.reportedChan c = c) :
    s.stopReached c = (s.modPlate? (some i) fun p => p.addDose c.phase 0).post c.port ⟨.channelStop, some i, c.index⟩ := by
  have hstop : (s.runOf c).foldl (fun t d => t.stopChan .reached d) s = s := by
    generalize s.runOf c = run at hrun
    induction run with
    | nil => rfl
    | cons d run ih =>
      rw [List.foldl_cons, hrun d (List.mem_cons_self ..)]
      exact ih fun e he => hrun e (List.mem_cons_of_mem _ he)
  rw [State.stopReached, hstop, hacc, htime, hrep, State.learnReference, if_neg (Nat.lt_irrefl 0), State.deliver, hslot,
    postStop_of_slot (i := i) (by simpa using hslot), StopResult.code, Nat.zero_mul, Nat.zero_add]

/-- The plate of a run that stops at its start. -/
def metPlate (i : Slot) (need : Int) : Option Slot := if 0 < need then none else some i

/-- A channel that counts alone is started, where it has no request (R104). -/
theorem startSingle_eq (hq : s.link.drop c = s.link) : s.startSingle c i need limit
    = (((s.modPlate? (metPlate i need) fun p => p.addDose c.phase 0).modChan c fun _ =>
        startOutcome i none need limit s.intervalNow).postAll c.port (stopsAtStart (some i) (fun _ => need) c)) := by
  by_cases hn : 0 < need
  · simp only [State.startSingle, metPlate, stopsAtStart, if_pos hn, startedChannel_eq]; rfl
  · simp only [State.startSingle, metPlate, stopsAtStart, if_neg hn, startedChannel_eq]
    have hc := State.chan_modChan_self s c fun _ => startOutcome i none need limit s.intervalNow
    have hp := congrArg Channel.partner hc
    rw [startOutcome_partner] at hp
    refine (stopReached_of_met (i := i) (fun d hd => ?_) (by simp) ?_ ?_ ?_).trans rfl
    · obtain rfl : d = c := by simpa [State.runOf, hp] using hd
      exact stopChan_of_met hq hn hc
    · simp [State.runAccumulator]
    · simp [State.refElapsed]
    · simp [State.reportedChan]

/-- A wide pair is started, where it has no requests: the stop of a pair without a need is reported under its lower
channel (R104, R115). -/
theorem startPair_eq (hcd : c.index < d.index) (hqc : s.link.drop c = s.link) (hqd : s.link.drop d = s.link) :
    s.startPair c d i need limit
      = ((((s.modPlate? (metPlate i need) fun p => p.addDose c.phase 0).modChan c fun _ =>
          startOutcome i (some d) need limit s.intervalNow).modChan d fun _ =>
            startOutcome i (some c) need limit s.intervalNow).postAll c.port (stopsAtStart (some i) (fun _ => need) c)) := by
  by_cases hn : 0 < need
  · simp only [State.startPair, metPlate, stopsAtStart, if_pos hn, startedChannel_eq]; rfl
  · simp only [State.startPair, metPlate, stopsAtStart, if_neg hn, startedChannel_eq]
    have hne : c ≠ d := fun e => absurd hcd (by simp [e])
    generalize hu : (s.modChan c fun _ => startOutcome i (some d) need limit s.intervalNow).modChan d (fun _ =>
      startOutcome i (some c) need limit s.intervalNow) = u
    have hc : u.chan c = startOutcome i (some d) need limit s.intervalNow := by
      rw [← hu, State.chan_modChan_ne _ _ hne, State.chan_modChan_self]
    have hd : u.chan d = startOutcome i (some c) need limit s.intervalNow := by rw [← hu, State.chan_modChan_self]
    have hl : u.link = s.link := by rw [← hu]; rfl
    have hp := congrArg Channel.partner hc
    rw [startOutcome_partner] at hp
    refine (stopReached_of_met (i := i) (fun e he => ?_) (by simp [hc]) ?_ ?_ ?_).trans (by rw [← hu]; rfl)
    · rcases show e = c ∨ e = d by simpa [State.runOf, hp] using he with rfl | rfl
      · exact stopChan_of_met (hl ▸ hqc) hn hc
      · exact stopChan_of_met (hl ▸ hqd) hn hd
    · simp [State.runAccumulator, hc, hd]
    · have hlt : ¬ d.index < c.index := lt_asymm hcd
      simp [State.refElapsed, higherChan, lowerChan, hlt, hc, hd]
    · simp [State.reportedChan, hp, lowerChan, lt_asymm hcd]

/-! ### The channel of a lane (R81, R85) -/

theorem startedFor_isActive : (startedFor o needs limits ts).state.isActive = startsRunning o needs := by
  cases o with
  | none => rfl
  | some i => exact startOutcome_isActive

/-- The channel of a lane is started for the plate on it, if there is one. -/
def State.startFor (s : State) (c : Chan) (o : Option Slot) (needs : Slot → Int) (limits : Slot → Nat) : State :=
  match o with
  | some i => s.startSingle c i (needs i) (limits i)
  | none => s

theorem startBackLane_eq (s : State) (c : Chan) (lane : Lane) : s.startBackLane c lane
    = s.startFor c lane.slot s.backNeed fun i => (s.plateType i).backMaxS * 1000 := by
  unfold State.startBackLane State.startFor
  split <;> simp only [*]

theorem startFaceLane_eq (s : State) (c : Chan) (lane : Lane) : s.startFaceLane c lane
    = s.startFor c lane.unfailed s.faceNeed fun i => (s.plateType i).faceMaxS * 1000 := by
  unfold State.startFaceLane State.startFor Lane.unfailed
  cases lane.slot <;> cases lane.failure <;> rfl

/-- A change of a channel's record to the record that it has. -/
theorem modChan_of_same {k : Channel} (h : s.chan c = k) : (s.modChan c fun _ => k) = s := by
  subst h
  simp [State.modChan, State.chan]

/-- The channel of a lane, IDLE and with no request, is started (R81, R85, R104). -/
theorem startFor_eq (hd : DosesOk s) (hq : s.link.drop c = s.link) (hidle : s.chan c = Channel.idle) :
    s.startFor c o needs limits = (s.modChan c fun _ => startedFor o needs limits s.intervalNow).postAll c.port
      (stopsAtStart o needs c) := by
  cases o with
  | none => exact (modChan_of_same hidle).symm
  | some i => exact (startSingle_eq hq).trans (by rw [hd.addDose_zero]; rfl)

/-- The channels of both lanes, IDLE and with no requests, are started (R81, R85, R104). -/
theorem startFor_startFor_eq {p q : Option Slot} (hab : b ≠ a) (hport : b.port = a.port) (hd : DosesOk s)
    (hqa : s.link.drop a = s.link) (hqb : s.link.drop b = s.link) (ha : s.chan a = Channel.idle)
    (hb : s.chan b = Channel.idle) :
    (s.startFor a p needs limits).startFor b q needs limits
      = ((s.modChan a fun _ => startedFor p needs limits s.intervalNow).modChan b fun _ =>
          startedFor q needs limits s.intervalNow).postAll a.port (stopsAtStart p needs a ++ stopsAtStart q needs b) := by
  rw [startFor_eq hd hqa ha, startFor_eq (fun i => by simpa using hd i) (by simpa using hqb)
    (by simpa [State.chan_modChan_ne _ _ hab] using hb), postAll_modChan, hport, postAll_append, postAll_intervalNow]
  rfl

end

end Sys2Proof.Machine
end

section
/-! The statements of START_BACK and START_FACE (R80, R81, R83 to R86). -/

namespace Sys2Proof.Machine

section
variable {s : State} {i : Slot} {kA kB : Channel} {es : List Event} {needs : Slot → Int} {limits : Slot → Nat}
  {runs : Bool}

/-! ### The phase that is begun (R83, R86) -/

theorem checkFramePhase_of_backRun (h : s.frame.state = .backRun) : s.checkFramePhase
    = if s.chanActive .backA || s.chanActive .backB then s
      else (s.setFrameState .backEnd).postAll .E [⟨.phaseEnd, s.frame.laneA.slot, 0⟩] :=
  (phasesEndWithTheirLastChannel s .backA).1 rfl h

theorem checkFramePhase_of_faceRun (h : s.frame.state = .faceRun) : s.checkFramePhase
    = if s.chanActive .faceA || s.chanActive .faceB then s
      else (s.setFrameState .faceEnd).postAll .E [⟨.phaseEnd, s.frame.laneA.slot, 1⟩] :=
  (phasesEndWithTheirLastChannel s .faceA).2.1 rfl h

/-- The back channels are given their records and their stops posted: the phase runs, or is over at once (R83). -/
theorem checkFramePhase_of_back (hr : (kA.state.isActive || kB.state.isActive) = runs) :
    ((((s.setFrameState .backRun).modChan .backA fun _ => kA).modChan .backB fun _ => kB).postAll .E es).checkFramePhase
      = State.postAll
          { s with
            chans := (s.chans.set 0 kA).set 1 kB
            frame := { s.frame with state := if runs then .backRun else .backEnd } }
          .E (es ++ if runs then [] else [⟨.phaseEnd, s.frame.laneA.slot, 0⟩]) := by
  have hA := State.chan_modChan_ne ((s.setFrameState .backRun).modChan .backA fun _ => kA) (fun _ => kB)
    (i := .backB) (j := .backA) (by decide)
  rw [checkFramePhase_of_backRun (by rw [postAll_frame]; rfl)]
  simp only [State.chanActive, postAll_chan, hA, State.chan_modChan_self, hr]
  cases runs
  · rw [postAll_append, postAll_setFrameState, postAll_frame]; rfl
  · simp only [↓reduceIte, List.append_nil]; rfl

/-- The face channels are given their records and their stops posted: the phase runs, or is over at once (R86). -/
theorem checkFramePhase_of_face (hr : (kA.state.isActive || kB.state.isActive) = runs) :
    ((((s.setFrameState .faceRun).modChan .faceA fun _ => kA).modChan .faceB fun _ => kB).postAll .E es).checkFramePhase
      = State.postAll
          { s with
            chans := (s.chans.set 2 kA).set 3 kB
            frame := { s.frame with state := if runs then .faceRun else .faceEnd } }
          .E (es ++ if runs then [] else [⟨.phaseEnd, s.frame.laneA.slot, 1⟩]) := by
  have hA := State.chan_modChan_ne ((s.setFrameState .faceRun).modChan .faceA fun _ => kA) (fun _ => kB)
    (i := .faceB) (j := .faceA) (by decide)
  rw [checkFramePhase_of_faceRun (by rw [postAll_frame]; rfl)]
  simp only [State.chanActive, postAll_chan, hA, State.chan_modChan_self, hr]
  cases runs
  · rw [postAll_append, postAll_setFrameState, postAll_frame]; rfl
  · simp only [↓reduceIte, List.append_nil]; rfl

/-! ### The channels of the load -/

theorem isWide_of_two (h : s.frame.laneA.slot = none ∨ s.frame.laneA.slot ≠ s.frame.laneB.slot) :
    s.frame.isWide = false := by
  rcases h with h | h <;> simp [FrameUnit.isWide, h]

theorem isWide_of_same (ha : s.frame.laneA.slot = some i) (hb : s.frame.laneB.slot = some i) : s.frame.isWide = true := by
  simp [FrameUnit.isWide, ha, hb]

/-- An IDLE channel has the cleared record and no request (R102, R106). -/
theorem LightOk.of_idle (h : LightOk s) {c : Chan} (hc : (s.chan c).state = .idle) :
    s.chan c = Channel.idle ∧ s.link.drop c = s.link :=
  ⟨(h.records c).idle hc, h.drop_of_inactive (by simp [State.chanActive, hc, ChanState.isActive])⟩

/-- A channel that is started leaves every plate and its type (R104). -/
theorem startFor_plate {c : Chan} {o : Option Slot} (hd : DosesOk s) (hq : s.link.drop c = s.link)
    (hidle : s.chan c = Channel.idle) (j : Slot) : (s.startFor c o needs limits).plate j = s.plate j
      ∧ (s.startFor c o needs limits).plateType j = s.plateType j := by
  rw [startFor_eq hd hq hidle, postAll_plate, postAll_plateType]
  exact ⟨rfl, rfl⟩

theorem startBackChannels_of_two (hl : LightOk s) (hd : DosesOk s) (hw : s.frame.isWide = false)
    (hA : (s.chan .backA).state = .idle) (hB : (s.chan .backB).state = .idle) (hn : needs = s.backNeed)
    (hm : limits = fun i => (s.plateType i).backMaxS * 1000) : s.startBackChannels
      = ((s.modChan .backA fun _ => startedFor s.frame.laneA.slot needs limits s.intervalNow).modChan .backB fun _ =>
          startedFor s.frame.laneB.slot needs limits s.intervalNow).postAll .E
            (stopsAtStart s.frame.laneA.slot needs .backA ++ stopsAtStart s.frame.laneB.slot needs .backB) := by
  obtain ⟨hkA, hqA⟩ := hl.of_idle hA
  obtain ⟨hkB, hqB⟩ := hl.of_idle hB
  subst hn hm
  refine Eq.trans ?_ (startFor_startFor_eq (a := .backA) (b := .backB) (by decide) rfl hd hqA hqB hkA hkB)
  have hsame := startFor_plate (o := s.frame.laneA.slot) (needs := s.backNeed)
    (limits := fun i => (s.plateType i).backMaxS * 1000) hd hqA hkA
  rw [State.startBackChannels, if_neg (by simp [hw]), startBackLane_eq, startBackLane_eq]
  unfold State.backNeed at *
  simp only [hsame]

theorem startFaceChannels_of_two (hl : LightOk s) (hd : DosesOk s) (hw : s.frame.isWide = false)
    (hA : (s.chan .faceA).state = .idle) (hB : (s.chan .faceB).state = .idle) (hn : needs = s.faceNeed)
    (hm : limits = fun i => (s.plateType i).faceMaxS * 1000) : s.startFaceChannels
      = ((s.modChan .faceA fun _ => startedFor s.frame.laneA.unfailed needs limits s.intervalNow).modChan .faceB fun _ =>
          startedFor s.frame.laneB.unfailed needs limits s.intervalNow).postAll .E
            (stopsAtStart s.frame.laneA.unfailed needs .faceA ++ stopsAtStart s.frame.laneB.unfailed needs .faceB) := by
  obtain ⟨hkA, hqA⟩ := hl.of_idle hA
  obtain ⟨hkB, hqB⟩ := hl.of_idle hB
  subst hn hm
  refine Eq.trans ?_ (startFor_startFor_eq (a := .faceA) (b := .faceB) (by decide) rfl hd hqA hqB hkA hkB)
  have hsame := startFor_plate (o := s.frame.laneA.unfailed) (needs := s.faceNeed)
    (limits := fun i => (s.plateType i).faceMaxS * 1000) hd hqA hkA
  rw [State.startFaceChannels, if_neg (by simp [hw]), startFaceLane_eq, startFaceLane_eq]
  unfold State.faceNeed at *
  simp only [hsame]

theorem startBackChannels_of_wide (ha : s.frame.laneA.slot = some i) (hb : s.frame.laneB.slot = some i) :
    s.startBackChannels = s.startPair .backA .backB i (s.backNeed i) ((s.plateType i).backMaxS * 1000) := by
  simp only [State.startBackChannels, isWide_of_same ha hb, if_true, ha]

theorem startFaceChannels_of_wide (ha : s.frame.laneA.slot = some i) (hb : s.frame.laneB.slot = some i)
    (hfa : s.frame.laneA.failure = false) (hfb : s.frame.laneB.failure = false) :
    s.startFaceChannels = s.startPair .faceA .faceB i (s.faceNeed i) ((s.plateType i).faceMaxS * 1000) := by
  simp [State.startFaceChannels, isWide_of_same ha hb, ha, hfa, hfb]

theorem startFaceChannels_of_failed (ha : s.frame.laneA.slot = some i) (hb : s.frame.laneB.slot = some i)
    (hf : s.frame.laneA.failure = true ∨ s.frame.laneB.failure = true) : s.startFaceChannels = s := by
  simp [State.startFaceChannels, isWide_of_same ha hb, ha, hf]

/-- The two channels of a wide plate, IDLE, are started (R81, R85, R104). -/
theorem startPair_of_idle {c d : Chan} {p : Port} (hl : LightOk s) (hd : DosesOk s) (hcd : c.index < d.index)
    (hp : c.port = p) (hC : (s.chan c).state = .idle) (hD : (s.chan d).state = .idle) (need : Int) (limit : Nat) :
    s.startPair c d i need limit
      = (((s.modChan c fun _ => startOutcome i (some d) need limit s.intervalNow).modChan d fun _ =>
          startOutcome i (some c) need limit s.intervalNow).postAll p (stopsAtStart (some i) (fun _ => need) c)) := by
  rw [← hp, startPair_eq hcd (hl.of_idle hC).2 (hl.of_idle hD).2, hd.addDose_zero]

/-- The stop of a wide pair without a need comes before the end of its phase. -/
theorem stopsAtStart_append (i : Slot) (need : Int) (c : Chan) (es : List Event) :
    (stopsAtStart (some i) (fun _ => need) c ++ if decide (0 < need) then [] else es)
      = if 0 < need then [] else ⟨.channelStop, some i, c.index⟩ :: es := by
  by_cases h : 0 < need <;> simp [stopsAtStart, h]

/-- A pair runs as one (R104). -/
theorem startOutcome_pair_isActive (i : Slot) (c d : Option Chan) (need : Int) (limit ts : Nat) :
    ((startOutcome i c need limit ts).state.isActive || (startOutcome i d need limit ts).state.isActive)
      = decide (0 < need) := by
  rw [startOutcome_isActive, startOutcome_isActive, Bool.or_self]

theorem LightOk.setFrameState (h : LightOk s) (st : FrameState) : LightOk (s.setFrameState st) :=
  ⟨h.records, h.due, h.live, h.outstanding, h.pairs⟩

/-! ### The statements -/

theorem startBackEffect_of_ready (hs : s.frame.state = .loaded) (hb : (s.bank .back).state = .ready) :
    startBackEffect s = ((s.setFrameState .backRun).startBackChannels.checkFramePhase, Reply.just .ok) := by
  simp [startBackEffect, hs, hb]

theorem startFaceEffect_of_ready (hs : s.frame.state = .backEnd) (hb : (s.bank .face).state = .ready) :
    startFaceEffect s = ((s.setFrameState .faceRun).startFaceChannels.checkFramePhase, Reply.just .ok) := by
  simp [startFaceEffect, hs, hb]

/-- Settles O37, by the plates on the bed. -/
theorem startBackStartsTheBackPhase : Obligations.StartBackStartsTheBackPhase := by
  intro s hg
  refine ⟨fun hs => ?_, fun hs hb => ?_, fun hs hb hl hp hd => ?_⟩
  · rw [exec_startBack hg, startBackEffect, if_pos (by simpa using hs)]; rfl
  · rw [exec_startBack hg, startBackEffect, if_neg (by simp [hs]), if_pos (by simpa using hb)]; rfl
  rintro need limit ts rfl rfl rfl
  obtain ⟨hA, hB⟩ := hp.backIdle (.inr hs)
  have hl := hl.setFrameState .backRun
  have hd : DosesOk (s.setFrameState .backRun) := hd
  rw [exec_startBack hg, startBackEffect_of_ready hs hb]
  refine ⟨?_, fun i ha hb => ?_⟩
  · rintro a b runs rfl rfl hw rfl
    rw [startBackChannels_of_two hl hd (isWide_of_two hw) hA hB rfl (funext fun i => Nat.mul_comm ..),
      checkFramePhase_of_back (by rw [startedFor_isActive, startedFor_isActive])]
    rfl
  · rw [startBackChannels_of_wide (s := s.setFrameState .backRun) ha hb, startPair_of_idle (p := .E) hl hd (by decide) rfl hA hB,
      checkFramePhase_of_back (startOutcome_pair_isActive ..), stopsAtStart_append,
      ha, Nat.mul_comm]
    simp only [decide_eq_true_eq]
    rfl

/-- Settles O38, by the plates on the bed and the failure marks of their lanes. -/
theorem startFaceStartsTheFacePhase : Obligations.StartFaceStartsTheFacePhase := by
  intro s hg
  refine ⟨fun hs => ?_, fun hs hb => ?_, fun hs hb hl hp hd => ?_⟩
  · rw [exec_startFace hg, startFaceEffect, if_pos (by simpa using hs)]; rfl
  · rw [exec_startFace hg, startFaceEffect, if_neg (by simp [hs]), if_pos (by simpa using hb)]; rfl
  rintro need limit ts rfl rfl rfl
  obtain ⟨hA, hB⟩ := hp.faceIdle (by simp [hs]) (by simp [hs])
  have hl := hl.setFrameState .faceRun
  have hd : DosesOk (s.setFrameState .faceRun) := hd
  rw [exec_startFace hg, startFaceEffect_of_ready hs hb]
  refine ⟨?_, fun i ha hb => ?_⟩
  · rintro a b runs hw rfl rfl rfl
    rw [startFaceChannels_of_two hl hd (isWide_of_two hw) hA hB rfl (funext fun i => Nat.mul_comm ..),
      checkFramePhase_of_face (by rw [startedFor_isActive, startedFor_isActive])]
    rfl
  · refine ⟨fun hf => ?_, fun hfa hfb => ?_⟩
    · have hquiet : ((s.setFrameState .faceRun).chanActive .faceA || (s.setFrameState .faceRun).chanActive .faceB) = false :=
        Bool.or_eq_false_iff.mpr ⟨congrArg ChanState.isActive hA, congrArg ChanState.isActive hB⟩
      rw [startFaceChannels_of_failed (s := s.setFrameState .faceRun) ha hb hf, checkFramePhase_of_faceRun rfl, hquiet,
        ← ha]
      rfl
    · rw [startFaceChannels_of_wide (s := s.setFrameState .faceRun) ha hb hfa hfb,
        startPair_of_idle (p := .E) hl hd (by decide) rfl hA hB,
        checkFramePhase_of_face (startOutcome_pair_isActive ..), stopsAtStart_append, ha, Nat.mul_comm]
      simp only [decide_eq_true_eq]
      rfl

end

end Sys2Proof.Machine
end

section
/-! BANK_ON and BANK_OFF (R94 to R98, R106, R116, R117): the bank that a command names, and the channels that pause. -/

namespace Sys2Proof.Machine

section
variable {s : State} {p q : Port} {code : Byte} {b : Bank} {c : Chan} {act : State → Bank → State}

/-! ### The bank of a command (R94) -/

theorem viaBank_of_gt (h : 3 < code.toNat) : viaBank p code act s = refuse .badParam s := by
  simp only [viaBank, namedBank_of_gt h]

theorem viaBank_of_other (h : code.toNat = b.index.val) (hp : b.owner ≠ p) :
    viaBank p code act s = refuse .wrongPort s := by
  simp only [viaBank, namedBank_of_index h]
  exact if_pos (by simpa using hp)

theorem viaBank_of_owner (h : code.toNat = b.index.val) (hp : b.owner = p) :
    viaBank p code act s = (act s b, Reply.just .ok) := by
  simp only [viaBank, namedBank_of_index h]
  exact if_neg (by simpa using hp)

/-! ### BANK_ON (R95, R96) -/

theorem bankOn_of_on (h : (s.bank b).state ≠ .off) : s.bankOn b = s := by
  unfold State.bankOn
  split
  next ho => exact absurd ho h
  · rfl
  · rfl

theorem bankOn_of_warm (h : (s.bank b).state = .off) (hw : s.item b.warmItem ≠ 0) :
    s.bankOn b = s.modBank b fun k => ⟨.warming, s.item b.warmItem, k.ref⟩ := by
  simp only [State.bankOn, h, if_neg hw]

theorem bankOn_of_cold (h : (s.bank b).state = .off) (hw : s.item b.warmItem = 0) :
    s.bankOn b = s.bankBecomesReady b := by
  simp only [State.bankOn, h, if_pos hw]

/-! ### The channels that pause (R106, R116) -/

/-- The record of a RUNNING channel that pauses: its read outstanding flag stays set while its read is on the link. -/
def Channel.pausedWith (k : Channel) (carried : Bool) : Channel :=
  if k.state = .running then
    { k with state := .paused, interval := none, readOutstanding := carried && k.readOutstanding }
  else k

/-- The RUNNING channels of P pause. -/
def State.pausing (s : State) (P : Chan → Bool) : State :=
  State.mapChans { s with link := s.link.without fun c => P c && (s.chan c).state == .running } fun c k =>
    if P c then k.pausedWith (s.linkCarries c) else k

theorem Link.without_false (k : Link) : k.without (fun _ => false) = k := by
  simpa using k.without_none

theorem Link.without_without (k : Link) (f g : Chan → Bool) :
    (k.without f).without g = k.without fun c => f c || g c := by
  have hdue : ((k.without f).without g).due = (k.without fun c => f c || g c).due := by
    ext n hn : 1
    by_cases hg : g (chanAt ⟨n, hn⟩) = true
    · simp [Link.without, hg]
    · simp [Link.without, hg]
  have hbusy : ((k.without f).without g).busy = (k.without fun c => f c || g c).busy := by
    cases hb : k.busy <;> simp [Link.without, hb, Bool.and_assoc]
  exact congrArg₂ (fun due busy => Link.mk busy due k.wire) hdue hbusy

theorem mapChans_id (s : State) : (s.mapChans fun _ k => k) = s := by
  simp [State.mapChans]

theorem linkCarries_without (s : State) (f : Chan → Bool) (g : Chan → Channel → Channel) (c : Chan) :
    (State.mapChans { s with link := s.link.without f } g).linkCarries c = s.linkCarries c := by
  cases hb : s.link.busy <;> simp [State.linkCarries, State.mapChans, Link.without, hb]

theorem pausing_none (s : State) : (s.pausing fun _ => false) = s := by
  simp [State.pausing, Link.without_false, mapChans_id]

theorem pausing_pausing (s : State) (P Q : Chan → Bool) :
    (s.pausing P).pausing Q = s.pausing fun c => P c || Q c := by
  have hgone (c : Chan) : (P c && (s.chan c).state == .running || Q c && ((s.pausing P).chan c).state == .running)
      = ((P c || Q c) && (s.chan c).state == .running) := by
    have hc : (s.pausing P).chan c = if P c then (s.chan c).pausedWith (s.linkCarries c) else s.chan c :=
      mapChans_chan ..
    rw [hc]
    by_cases hr : (s.chan c).state = .running <;> cases P c <;> cases Q c <;> simp [Channel.pausedWith, hr]
  have hlink : (s.pausing P).link.without (fun c => Q c && ((s.pausing P).chan c).state == .running)
      = s.link.without fun c => (P c || Q c) && (s.chan c).state == .running :=
    (Link.without_without ..).trans (congrArg s.link.without (funext hgone))
  have hrecord (c : Chan) (k : Channel) : (if Q c then
        (if P c then k.pausedWith (s.linkCarries c) else k).pausedWith ((s.pausing P).linkCarries c)
      else if P c then k.pausedWith (s.linkCarries c) else k)
      = if P c || Q c then k.pausedWith (s.linkCarries c) else k := by
    rw [State.pausing, linkCarries_without]
    by_cases hr : k.state = .running <;> cases P c <;> cases Q c <;> simp [Channel.pausedWith, hr]
  calc (s.pausing P).pausing Q
      = State.mapChans (State.mapChans { s with link := s.link.without fun c =>
            (P c || Q c) && (s.chan c).state == .running } fun c k => if P c then k.pausedWith (s.linkCarries c) else k)
          fun c k => if Q c then k.pausedWith ((s.pausing P).linkCarries c) else k := by rw [← hlink]; rfl
    _ = s.pausing fun c => P c || Q c := by
      rw [mapChans_mapChans]
      exact congrArg (State.mapChans _) (funext fun c => funext (hrecord c))

theorem pauseChan_eq (s : State) (c : Chan) : s.pauseChan c = s.pausing (· == c) := by
  have hrecords : (s.modChan c fun k => k.pausedWith (s.linkCarries c))
      = s.mapChans fun e k => if e == c then k.pausedWith (s.linkCarries e) else k := by
    rw [modChan_eq_mapChans]
    refine congrArg s.mapChans (funext fun e => funext fun k => ?_)
    by_cases he : e = c <;> simp [he]
  by_cases hr : (s.chan c).state = .running
  · have hgone : (fun e => e == c && (s.chan e).state == .running) = fun e => decide (some c = some e) := by
      funext e
      by_cases he : e = c
      · simp [he, hr]
      · simp [he, Ne.symm he]
    have hk : s.chans[c.index].pausedWith (s.linkCarries c) = { s.chans[c.index] with
        state := .paused, interval := none, readOutstanding := s.linkCarries c && s.chans[c.index].readOutstanding } :=
      if_pos hr
    rw [State.pausing, hgone, Link.without_some, State.pauseChan, if_pos (by simpa using hr)]
    refine Eq.trans ?_ (congrArg (fun t => { t with link := s.link.drop c }) hrecords)
    simp only [State.withdraw, State.modChan, hk]
    simp
  · have hgone : (fun e => e == c && (s.chan e).state == .running) = fun _ => false := by
      funext e
      by_cases he : e = c
      · simp [he, hr]
      · simp [he]
    have hk : (s.chan c).pausedWith (s.linkCarries c) = s.chan c := if_neg hr
    rw [State.pausing, hgone, Link.without_false, State.pauseChan, if_neg (by simpa using hr)]
    refine Eq.trans ?_ hrecords
    simp only [State.modChan, show s.chans[c.index].pausedWith (s.linkCarries c) = s.chans[c.index] from hk]
    simp

theorem foldl_pauseChan (l : List Chan) (s : State) : l.foldl State.pauseChan s = s.pausing fun c => l.contains c := by
  induction l generalizing s with
  | nil => exact (pausing_none s).symm
  | cons d l ih =>
    rw [List.foldl_cons, ih, pauseChan_eq, pausing_pausing]
    simp only [List.contains_cons]

theorem Bank.contains_chans (b : Bank) (c : Chan) : b.chans.contains c = decide (c.bank = b) := by
  cases b <;> cases c <;> rfl

/-- BANK_OFF pauses the bank's RUNNING channels at one stroke (R97, R116). -/
theorem bankOff_eq (s : State) (b : Bank) : s.bankOff b
    = State.mapChans
        { s.modBank b fun k => ⟨.off, 0, k.ref⟩ with
          link := s.link.without fun c => decide (c.bank = b ∧ (s.chan c).state = .running) }
        fun c k =>
          if c.bank = b ∧ k.state = .running then
            { k with state := .paused, interval := none, readOutstanding := s.linkCarries c && k.readOutstanding }
          else k := by
  have hgone : (fun c => decide (c.bank = b) && (s.chan c).state == .running)
      = fun c => decide (c.bank = b ∧ (s.chan c).state = .running) := by
    funext c
    rw [Bool.decide_and, beq_eq_decide]
  have hrecord (c : Chan) (k : Channel) : (if decide (c.bank = b) = true then k.pausedWith (s.linkCarries c) else k)
      = if c.bank = b ∧ k.state = .running then
          { k with state := .paused, interval := none, readOutstanding := s.linkCarries c && k.readOutstanding }
        else k := by
    by_cases hb : c.bank = b <;> simp [hb, Channel.pausedWith]
  rw [State.bankOff, foldl_pauseChan]
  simp only [Bank.contains_chans]
  rw [← hgone]
  exact congrArg (State.mapChans _) (funext fun c => funext (hrecord c))

/-! ### The statement -/

theorem owner_and_warmItem {warmTime : Item} (h : (b, q, warmTime) ∈ [(Bank.back, Port.E, Item.warmBack),
    (.face, .E, .warmFace), (.detack, .D, .warmDetack), (.post, .D, .warmPost)]) :
    b.owner = q ∧ b.warmItem = warmTime := by
  simp only [List.mem_cons, List.not_mem_nil, Prod.mk.injEq, or_false] at h
  rcases h with ⟨rfl, rfl, rfl⟩ | ⟨rfl, rfl, rfl⟩ | ⟨rfl, rfl, rfl⟩ | ⟨rfl, rfl, rfl⟩ <;> exact ⟨rfl, rfl⟩

/-- Settles O36: the checks of the bank named, then BANK_ON by the bank's state and BANK_OFF. -/
theorem banksAreSwitched : Obligations.BanksAreSwitched := by
  refine ⟨fun s p code hg hc => ?_, fun s p code hg hc => ?_, fun s p q code b warmTime hc hq => ?_⟩
  · rw [exec_bankOn p code hg, viaBank_of_gt hc]; rfl
  · rw [exec_bankOff p code hg, viaBank_of_gt hc]; rfl
  obtain ⟨rfl, rfl⟩ := owner_and_warmItem hq
  refine ⟨fun hg => ?_, fun hg => ?_⟩
  · rw [exec_bankOn p code hg]
    refine ⟨fun hp => ?_, ?_⟩
    · rw [viaBank_of_other hc (Ne.symm hp)]; rfl
    · rintro rfl
      rw [viaBank_of_owner hc rfl]
      refine ⟨fun hs => ?_, fun hs hw => ?_, fun hs hw => ?_⟩
      · rw [bankOn_of_on hs]; rfl
      · rw [bankOn_of_warm hs (Nat.pos_iff_ne_zero.mp hw)]; rfl
      · have hport : b.owner = if b = .back ∨ b = .face then Port.E else .D := by cases b <;> rfl
        rw [bankOn_of_cold hs hw, bankBecomesReady_eq, ← hport]; rfl
  · rw [exec_bankOff p code hg]
    refine ⟨fun hp => ?_, ?_⟩
    · rw [viaBank_of_other hc (Ne.symm hp)]; rfl
    · rintro rfl
      rw [viaBank_of_owner hc rfl, bankOff_eq]; rfl

end

end Sys2Proof.Machine
end

section
/-! The bench: the bed, the banks, the channels, the link and the finisher position, which are all that O58 speaks of. What
moves plates by the lists, the washout and the drawers leaves the bench alone. -/

namespace Sys2Proof.Machine

/-- The state with all but the bench as after reset. -/
def State.bench (s : State) : State :=
  { State.reset with
    frame := s.frame, banks := s.banks, chans := s.chans, link := s.link, finisher := s.finisher }

section
variable {s t : State}

/-- A change of the bench is read from its five records. -/
theorem bench_congr (hf : t.frame = s.frame) (hb : t.banks = s.banks) (hc : t.chans = s.chans) (hl : t.link = s.link)
    (hp : t.finisher = s.finisher) : t.bench = s.bench := by
  simp only [State.bench, hf, hb, hc, hl, hp]

/-- What leaves the plant, the bed and the finisher position leaves the bench. -/
theorem bench_of_plant (h : t.plant = s.plant) (hf : t.frame = s.frame) (hp : t.finisher = s.finisher) :
    t.bench = s.bench :=
  bench_congr hf (congrArg State.banks h :) (congrArg State.chans h :) (congrArg State.link h :) hp

theorem bench_of_line (h : t.line = s.line) : t.bench = s.bench := (congrArg State.bench h :)

/-! ### Records and lists -/

@[simp] theorem bench_modPlate (s : State) (i : Slot) (f : Plate → Plate) : (s.modPlate i f).bench = s.bench := rfl

@[simp] theorem bench_modPlateOpt (s : State) (o : Option Slot) (f : Plate → Plate) :
    (s.modPlate? o f).bench = s.bench := by
  cases o <;> rfl

@[simp] theorem bench_post (s : State) (p : Port) (e : Event) : (s.post p e).bench = s.bench := rfl

@[simp] theorem bench_postAll (s : State) (p : Port) (es : List Event) : (s.postAll p es).bench = s.bench :=
  postAll_keeps State.bench (fun _ _ _ => rfl) s p es

@[simp] theorem bench_modDrawer (s : State) (d : DrawerIx) (f : Drawer → Drawer) : (s.modDrawer d f).bench = s.bench := rfl

@[simp] theorem bench_setWaitList (s : State) (l : WaitList) (q : List Slot) : (s.setWaitList l q).bench = s.bench := by
  cases l <;> rfl

@[simp] theorem bench_leaveList (s : State) (l : WaitList) (i : Slot) : (s.leaveList l i).bench = s.bench :=
  bench_setWaitList ..

@[simp] theorem bench_fillList (s : State) (l : WaitList) (q : List Slot) : (s.fillList l q).bench = s.bench := by
  rw [State.fillList]
  cases (s.waitList l).isEmpty <;> exact bench_setWaitList ..

@[simp] theorem bench_joinTail (s : State) (l : WaitList) (i : Slot) : (s.joinTail l i).bench = s.bench :=
  bench_fillList ..

@[simp] theorem bench_leaveOwnList (s : State) (i : Slot) : (s.leaveOwnList i).bench = s.bench := by
  unfold State.leaveOwnList
  split
  · exact bench_leaveList ..
  · rfl

@[simp] theorem bench_holdAtStep (s : State) (i : Slot) (reason : HoldReason) (from_ : HeldFrom) (p : Port) :
    (s.holdAtStep i reason from_ p).bench = s.bench := rfl

@[simp] theorem bench_joinReleased (s : State) (i : Slot) (dest : HeldFrom) : (s.joinReleased i dest).bench = s.bench := by
  cases dest <;> simp [State.joinReleased]

/-! ### The moves of plates -/

@[simp] theorem bench_stage (s : State) (mk : Nat → Plate) (slots : List Slot) : (s.stage mk slots).bench = s.bench := by
  obtain ⟨plates, h⟩ := fillCopies_eq mk 0 slots s
  rw [State.stage, bench_fillList, h]
  rfl

@[simp] theorem bench_placeOnFrame (s : State) (i : Slot) (lane : LanePlace) : (s.placeOnFrame i lane).bench = s.bench := by
  simp [State.placeOnFrame]

@[simp] theorem bench_settleUnloaded (s : State) (i : Slot) (lane : Lane) : (s.settleUnloaded i lane).bench = s.bench := by
  unfold State.settleUnloaded
  split
  · rfl
  split
  · rfl
  split
  · rfl
  · exact bench_joinTail ..

@[simp] theorem bench_settleLane (s : State) (lane : Lane) : (s.settleLane lane).bench = s.bench := by
  unfold State.settleLane
  split
  · exact bench_settleUnloaded ..
  · rfl

@[simp] theorem bench_undoLane (s : State) (ahead : Option Slot) (i : Slot) : (s.undoLane ahead i).bench = s.bench := by
  unfold State.undoLane
  split
  · rfl
  · exact bench_fillList ..

@[simp] theorem bench_undoLoad (s : State) : s.undoLoad.bench = s.bench := by
  unfold State.undoLoad
  split <;> simp

@[simp] theorem bench_foldl_holdAborted (l : List Slot) (s : State) : (l.foldl State.holdAborted s).bench = s.bench := by
  induction l generalizing s with
  | nil => rfl
  | cons i l ih => exact (ih _).trans rfl

@[simp] theorem bench_evaluateGate (s : State) : s.evaluateGate.bench = s.bench :=
  bench_of_plant (plant_evaluateGate s) (congrArg State.frame (places_evaluateGate s) :)
    (congrArg State.finisher (places_evaluateGate s) :)

@[simp] theorem bench_storeItem (s : State) (x : Item) (v : Nat) : (s.storeItem x v).bench = s.bench := by
  unfold State.storeItem State.itemChanged
  split
  · rfl
  · split
    · exact (bench_evaluateGate _).trans rfl
    · rfl

@[simp] theorem bench_book (s : State) (i : Slot) : (s.book i).bench = s.bench := by
  unfold State.book
  split <;> rfl

@[simp] theorem bench_endWash (s : State) (i : Slot) : (s.endWash i).bench = s.bench := by
  unfold State.endWash
  split
  · rfl
  · exact bench_joinTail ..

@[simp] theorem bench_overdueExpiry (s : State) (i : Slot) : (s.overdueExpiry i).bench = s.bench := by
  unfold State.overdueExpiry
  split <;> rfl

@[simp] theorem bench_unloadDrawer (s : State) (d : DrawerIx) (i : Slot) : (s.unloadDrawer d i).bench = s.bench := by
  unfold State.unloadDrawer
  split <;> rfl

@[simp] theorem bench_dryExpiry (s : State) (d : DrawerIx) : (s.dryExpiry d).bench = s.bench := by
  unfold State.dryExpiry State.endDrying
  split
  · split
    · split
      · rfl
      · exact bench_joinTail ..
    · rfl
  · rfl

@[simp] theorem bench_clearReference (s : State) (i : Slot) : (s.clearReference i).bench = s.bench := by
  unfold State.clearReference
  split <;> rfl

@[simp] theorem bench_settleFinished (s : State) (i : Slot) : (s.settleFinished i).bench = s.bench := by
  unfold State.settleFinished
  split
  · rfl
  split
  · rfl
  split <;> rfl

@[simp] theorem bench_undoFinish (s : State) (i : Slot) : (s.undoFinish i).bench = s.bench := by
  unfold State.undoFinish
  split
  · rfl
  · exact bench_fillList ..

end

/-! ### Changes of the bench itself -/

section
variable {s t : State} (h : t.bench = s.bench)
include h

theorem bench_modChan (c : Chan) (f : Channel → Channel) : (t.modChan c f).bench = (s.modChan c f).bench := by
  have hc : t.chans = s.chans := (congrArg State.chans h :)
  have hs (u : State) : (u.modChan c f).bench = { u.bench with chans := u.chans.set c.index (f u.chans[c.index]) } := rfl
  rw [hs, hs, h, hc]

theorem bench_setFrame (u : FrameUnit) : State.bench { t with frame := u } = State.bench { s with frame := u } :=
  (congrArg (fun v : State => { v with frame := u }) h :)

theorem bench_setFinisher (v : Finisher) : State.bench { t with finisher := v } = State.bench { s with finisher := v } :=
  (congrArg (fun u : State => { u with finisher := v }) h :)

theorem bench_idleChan (c : Chan) : (t.idleChan c).bench = (s.idleChan c).bench := bench_modChan h c _

theorem bench_clearBed : t.clearBed.bench = s.clearBed.bench :=
  bench_setFrame (bench_idleChan (bench_idleChan (bench_idleChan (bench_idleChan h .backA) .backB) .faceA) .faceB) {}

theorem bench_clearFinisher : t.clearFinisher.bench = s.clearFinisher.bench :=
  bench_setFinisher (bench_idleChan (bench_idleChan h .detack) .post) {}

end

/-! ### What the three invariants say together -/

/-- The channels' records agree with the link and their pairs, with the phases, and with the banks. -/
structure Accord (s : State) : Prop where
  light : LightOk s
  phases : PhasesOk s
  lit : LitOk s

section
variable {s t : State}

theorem LightOk.of_bench (h : t.bench = s.bench) (hs : LightOk s) : LightOk t := by
  have hb : LightOk t.bench := h ▸ (⟨hs.records, hs.due, hs.live, hs.outstanding, hs.pairs⟩ : LightOk s.bench)
  exact ⟨hb.records, hb.due, hb.live, hb.outstanding, hb.pairs⟩

theorem PhasesOk.of_bench (h : t.bench = s.bench) (hs : PhasesOk s) : PhasesOk t := by
  have hb : PhasesOk t.bench := h ▸ (⟨hs.backIdle, hs.faceIdle, hs.backRuns, hs.faceRuns, hs.finishIdle, hs.finishRuns,
    hs.lanes, hs.positions⟩ : PhasesOk s.bench)
  exact ⟨hb.backIdle, hb.faceIdle, hb.backRuns, hb.faceRuns, hb.finishIdle, hb.finishRuns, hb.lanes, hb.positions⟩

theorem LitOk.of_bench (h : t.bench = s.bench) (hs : LitOk s) : LitOk t := by
  have hb : LitOk t.bench := h ▸ (hs : LitOk s.bench)
  exact hb

theorem Accord.of_bench (h : t.bench = s.bench) (hs : Accord s) : Accord t :=
  ⟨hs.light.of_bench h, hs.phases.of_bench h, hs.lit.of_bench h⟩

theorem accord_reset : Accord State.reset := ⟨lightOk_reset, phasesOk_reset, litOk_reset⟩

end

end Sys2Proof.Machine
end

section
/-! The three invariants of the bench in parts: what is held of one channel (R101, R102, R106, R107), the pairs (R104), the
bed (R78, R79, R83, R86) and the finisher position (R155, R158); and what keeps each part. -/

namespace Sys2Proof.Machine

/-! ### What is held of one channel -/

/-- What the Light Integrator and the Sensor Link hold of one channel: its record, its request in the due list, and, while
the transaction on the link is its own, whether that will be credited. -/
structure Meter where
  chan : Channel
  due : Option Nat
  read : Option Bool

/-- Whether the transaction on the link will be credited, while it is a channel's own. -/
def Link.readOf (k : Link) (c : Chan) : Option Bool := k.busy.bind fun r => if r.chan = c then some r.live else none

/-- What is held of a channel. -/
def State.meter (s : State) (c : Chan) : Meter := ⟨s.chan c, s.link.due[c.index], s.link.readOf c⟩

/-- A channel's record has just the fields of its state, and agrees with its request and its transaction. -/
structure Meter.Ok (m : Meter) : Prop where
  record : ChannelOk m.chan
  due : m.due.isSome = true → m.chan.state = .running ∧ m.chan.readOutstanding = true ∧ m.read = none
  live : m.read = some true → m.chan.state = .running ∧ m.chan.readOutstanding = true
  outstanding : m.chan.readOutstanding = true → m.due.isSome = true ∨ m.read.isSome = true

/-- Two channels are the two of one lane pair, and count as one (R104). -/
def State.GoTogether (s : State) (c d : Chan) : Prop :=
  Chan.partnerOf c = some d ∧ (s.chan d).partner = some c ∧ (s.chan d).state = (s.chan c).state
    ∧ (s.chan d).slot = (s.chan c).slot ∧ (s.chan d).need = (s.chan c).need ∧ (s.chan d).limit = (s.chan c).limit

/-- The two channels of each wide pair go together (R104). -/
def PairsOk (s : State) : Prop := ∀ c d, (s.chan c).partner = some d → s.GoTogether c d

section
variable {s t : State} {c d : Chan} {m : Meter}

@[simp] theorem meter_chan (s : State) (c : Chan) : (s.meter c).chan = s.chan c := rfl

theorem linkCarries_eq (s : State) (c : Chan) : s.linkCarries c = (s.meter c).read.isSome := by
  cases hb : s.link.busy with
  | none => simp [State.linkCarries, State.meter, Link.readOf, hb]
  | some r => by_cases hr : r.chan = c <;> simp [State.linkCarries, State.meter, Link.readOf, hb, hr]

theorem readOf_eq_some {k : Link} {live : Bool} :
    k.readOf c = some live ↔ ∃ r ∈ k.busy, r.chan = c ∧ r.live = live := by
  simp [Link.readOf, Option.bind_eq_some_iff]

theorem lightOk_iff (s : State) : LightOk s ↔ (∀ c, (s.meter c).Ok) ∧ PairsOk s := by
  constructor
  · refine fun h => ⟨fun c => ⟨h.records c, fun hd => ?_, fun hl => ?_, fun ho => ?_⟩, h.pairs⟩
    · obtain ⟨hst, ho, hc⟩ := h.due c hd
      exact ⟨hst, ho, by simpa [linkCarries_eq] using hc⟩
    · obtain ⟨r, hr, rfl, hlive⟩ := readOf_eq_some.mp hl
      exact h.live r hr hlive
    · rw [← linkCarries_eq]
      exact h.outstanding c ho
  · rintro ⟨h, hp⟩
    refine ⟨fun c => (h c).record, fun c hd => ?_, fun r hr hl => ?_, fun c ho => ?_, hp⟩
    · obtain ⟨hst, ho, hc⟩ := (h c).due hd
      exact ⟨hst, ho, by simp [linkCarries_eq, hc]⟩
    · exact (h r.chan).live (readOf_eq_some.mpr ⟨r, hr, rfl, hl⟩)
    · rw [linkCarries_eq]
      exact (h c).outstanding ho

theorem meter_congr (hc : t.chan c = s.chan c) (hl : t.link = s.link) : t.meter c = s.meter c := by
  simp only [State.meter, hc, hl]

theorem chan_of_meter (h : t.meter c = s.meter c) : t.chan c = s.chan c := congrArg Meter.chan h

/-- A channel that is not under way has no request, and no transaction of its is credited (R106). -/
theorem Meter.Ok.quiet (h : m.Ok) (hm : m.chan.state ≠ .running) : m.due = none ∧ m.read ≠ some true :=
  ⟨Option.not_isSome_iff_eq_none.mp fun hd => hm (h.due hd).1, fun hl => hm (h.live hl).1⟩

/-- A record that goes with no request and no read outstanding. -/
theorem Meter.Ok.of_quiet (hr : ChannelOk m.chan) (ho : m.chan.readOutstanding = false) (hd : m.due = none)
    (hl : m.read ≠ some true) : m.Ok :=
  ⟨hr, by simp [hd], fun h => absurd h hl, by simp [ho]⟩

/-! ### The run of a channel goes on -/

/-- A channel's record still names the run that it named: the plate, the partner, the need and the limit, and it is IDLE
only if it was. -/
structure Channel.SameRun (k l : Channel) : Prop where
  slot : l.slot = k.slot
  partner : l.partner = k.partner
  need : l.need = k.need
  limit : l.limit = k.limit
  idle : l.state = .idle ↔ k.state = .idle

theorem Channel.SameRun.refl (k : Channel) : Channel.SameRun k k := ⟨rfl, rfl, rfl, rfl, Iff.rfl⟩

theorem Channel.SameRun.of_eq {k l : Channel} (h : l = k) : Channel.SameRun k l := h ▸ .refl k

theorem PairsOk.of_runs (h : PairsOk s) (hr : ∀ c, Channel.SameRun (s.chan c) (t.chan c))
    (hst : ∀ c d, (s.chan c).partner = some d → (s.chan d).state = (s.chan c).state →
      (t.chan d).state = (t.chan c).state) : PairsOk t := by
  intro c d hd
  rw [(hr c).partner] at hd
  obtain ⟨hof, hback, hstate, hslot, hneed, hlimit⟩ := h c d hd
  exact ⟨hof, (hr d).partner.trans hback, hst c d hd hstate, by rw [(hr d).slot, (hr c).slot, hslot],
    by rw [(hr d).need, (hr c).need, hneed], by rw [(hr d).limit, (hr c).limit, hlimit]⟩

/-- The bed and the finisher position stand as they were, but for the marks of the lanes and of the position. -/
structure Stand (s t : State) : Prop where
  frame : t.frame.state = s.frame.state
  laneA : t.frame.laneA.slot = s.frame.laneA.slot
  laneB : t.frame.laneB.slot = s.frame.laneB.slot
  finisher : t.finisher.state = s.finisher.state
  position : t.finisher.slot = s.finisher.slot

theorem Stand.of_eq (hf : t.frame = s.frame) (hp : t.finisher = s.finisher) : Stand s t :=
  ⟨by rw [hf], by rw [hf], by rw [hf], by rw [hp], by rw [hp]⟩

theorem Stand.refl (s : State) : Stand s s := .of_eq rfl rfl

theorem Stand.trans {u : State} (h : Stand s t) (k : Stand t u) : Stand s u :=
  ⟨k.frame.trans h.frame, k.laneA.trans h.laneA, k.laneB.trans h.laneB, k.finisher.trans h.finisher,
    k.position.trans h.position⟩

/-! ### The bed and the position -/

/-- The bed agrees with its channels, but for a phase that is over and has not been seen to be. -/
structure BedHeld (s : State) : Prop where
  backIdle : s.frame.state = .empty ∨ s.frame.state = .loaded →
    (s.chan .backA).state = .idle ∧ (s.chan .backB).state = .idle
  faceIdle : s.frame.state ≠ .faceRun → s.frame.state ≠ .faceEnd →
    (s.chan .faceA).state = .idle ∧ (s.chan .faceB).state = .idle
  back : (s.chanActive .backA || s.chanActive .backB) = true → s.frame.state = .backRun
  face : (s.chanActive .faceA || s.chanActive .faceB) = true → s.frame.state = .faceRun
  lanes : ∀ c l, c.lane = some l → (s.chan c).state ≠ .idle →
    (s.chan c).slot = (s.frame.lane l).slot ∧ (s.chan c).partner.isSome = s.frame.isWide

/-- A phase of the frame that runs has a channel under way (R83, R86). -/
structure BedSettled (s : State) : Prop where
  back : s.frame.state = .backRun → (s.chanActive .backA || s.chanActive .backB) = true
  face : s.frame.state = .faceRun → (s.chanActive .faceA || s.chanActive .faceB) = true

/-- The finisher position agrees with its channels, but for a run that is over and has not been seen to be. -/
structure PositionHeld (s : State) : Prop where
  idle : s.finisher.state = .empty ∨ s.finisher.state = .loaded →
    (s.chan .detack).state = .idle ∧ (s.chan .post).state = .idle
  run : (s.chanActive .detack || s.chanActive .post) = true → s.finisher.state = .running
  positions : ∀ c, c.lane = none → (s.chan c).state ≠ .idle → (s.chan c).slot = s.finisher.slot

/-- A finishing run has a channel under way (R158). -/
def PositionSettled (s : State) : Prop :=
  s.finisher.state = .running → (s.chanActive .detack || s.chanActive .post) = true

theorem phasesOk_iff (s : State) :
    PhasesOk s ↔ (BedHeld s ∧ BedSettled s) ∧ PositionHeld s ∧ PositionSettled s := by
  have iff_of (b : Bool) (p : Prop) [Decidable p] : b = decide p ↔ (b = true → p) ∧ (p → b = true) := by
    rw [Bool.eq_iff_iff, decide_eq_true_iff]
    exact ⟨fun h => ⟨h.1, h.2⟩, fun h => ⟨h.1, h.2⟩⟩
  constructor
  · intro h
    obtain ⟨hb, hb'⟩ := (iff_of ..).mp h.backRuns
    obtain ⟨hf, hf'⟩ := (iff_of ..).mp h.faceRuns
    obtain ⟨hr, hr'⟩ := (iff_of ..).mp h.finishRuns
    exact ⟨⟨⟨h.backIdle, h.faceIdle, hb, hf, h.lanes⟩, ⟨hb', hf'⟩⟩, ⟨h.finishIdle, hr, h.positions⟩, hr'⟩
  · rintro ⟨⟨hb, ⟨hb', hf'⟩⟩, hp, hp'⟩
    exact ⟨hb.backIdle, hb.faceIdle, (iff_of ..).mpr ⟨hb.back, hb'⟩, (iff_of ..).mpr ⟨hb.face, hf'⟩, hp.idle,
      (iff_of ..).mpr ⟨hp.run, hp'⟩, hb.lanes, hp.positions⟩

theorem Stand.lane (h : Stand s t) (l : LaneId) : (t.frame.lane l).slot = (s.frame.lane l).slot := by
  cases l
  · exact h.laneA
  · exact h.laneB

theorem Stand.isWide (h : Stand s t) : t.frame.isWide = s.frame.isWide := by
  simp only [FrameUnit.isWide, h.laneA, h.laneB]

/-- Of two channels, one is under way that was. -/
theorem or_active_mono (ha : t.chanActive c = true → s.chanActive c = true)
    (hb : t.chanActive d = true → s.chanActive d = true) (h : (t.chanActive c || t.chanActive d) = true) :
    (s.chanActive c || s.chanActive d) = true := by
  rw [Bool.or_eq_true] at h ⊢
  exact h.imp ha hb

section
variable (hs : Stand s t)
include hs

theorem BedHeld.of_runs (h : BedHeld s) (hr : ∀ c, c.lane.isSome = true → Channel.SameRun (s.chan c) (t.chan c))
    (ha : ∀ c, c.lane.isSome = true → t.chanActive c = true → s.chanActive c = true) : BedHeld t where
  backIdle hf := (h.backIdle (hs.frame ▸ hf)).imp (hr .backA rfl).idle.mpr (hr .backB rfl).idle.mpr
  faceIdle hf hf' := (h.faceIdle (hs.frame ▸ hf) (hs.frame ▸ hf')).imp (hr .faceA rfl).idle.mpr (hr .faceB rfl).idle.mpr
  back hx := hs.frame.trans (h.back (or_active_mono (ha .backA rfl) (ha .backB rfl) hx))
  face hx := hs.frame.trans (h.face (or_active_mono (ha .faceA rfl) (ha .faceB rfl) hx))
  lanes c l hc hx := by
    have hc' : c.lane.isSome = true := hc ▸ rfl
    obtain ⟨hslot, hpart⟩ := h.lanes c l hc (mt (hr c hc').idle.mpr hx)
    exact ⟨by rw [(hr c hc').slot, hs.lane, hslot], by rw [(hr c hc').partner, hs.isWide, hpart]⟩

theorem BedSettled.of_runs (h : BedSettled s)
    (ha : ∀ c, c.lane.isSome = true → s.chanActive c = true → t.chanActive c = true) : BedSettled t :=
  ⟨fun hf => or_active_mono (ha .backA rfl) (ha .backB rfl) (h.back (hs.frame ▸ hf)),
    fun hf => or_active_mono (ha .faceA rfl) (ha .faceB rfl) (h.face (hs.frame ▸ hf))⟩

theorem PositionHeld.of_runs (h : PositionHeld s) (hr : ∀ c, c.lane = none → Channel.SameRun (s.chan c) (t.chan c))
    (ha : ∀ c, c.lane = none → t.chanActive c = true → s.chanActive c = true) : PositionHeld t where
  idle hf := (h.idle (hs.finisher ▸ hf)).imp (hr .detack rfl).idle.mpr (hr .post rfl).idle.mpr
  run hx := hs.finisher.trans (h.run (or_active_mono (ha .detack rfl) (ha .post rfl) hx))
  positions c hc hx := by
    rw [(hr c hc).slot, hs.position]
    exact h.positions c hc (mt (hr c hc).idle.mpr hx)

theorem PositionSettled.of_runs (h : PositionSettled s)
    (ha : ∀ c, c.lane = none → s.chanActive c = true → t.chanActive c = true) : PositionSettled t :=
  fun hf => or_active_mono (ha .detack rfl) (ha .post rfl) (h (hs.finisher ▸ hf))

end

/-! ### A step that leaves every channel under way -/

/-- Where every run goes on, under way if it was, the bench stands, and what is held of each channel still agrees, the
invariants are kept. -/
theorem Accord.of_active (h : Accord s) (hm : ∀ c, (t.meter c).Ok) (hr : ∀ c, Channel.SameRun (s.chan c) (t.chan c))
    (ha : ∀ c, t.chanActive c = s.chanActive c)
    (hst : ∀ c d, (s.chan c).partner = some d → (s.chan d).state = (s.chan c).state →
      (t.chan d).state = (t.chan c).state) (hs : Stand s t) (hlit : LitOk t) : Accord t := by
  obtain ⟨⟨hbed, hbed'⟩, hpos, hpos'⟩ := (phasesOk_iff s).mp h.phases
  have hto (c : Chan) : t.chanActive c = true → s.chanActive c = true := ha c ▸ id
  have hof (c : Chan) : s.chanActive c = true → t.chanActive c = true := ha c ▸ id
  exact ⟨(lightOk_iff t).mpr ⟨hm, PairsOk.of_runs (s := s) h.light.pairs hr hst⟩,
    (phasesOk_iff t).mpr ⟨⟨hbed.of_runs hs (fun c _ => hr c) fun c _ => hto c, hbed'.of_runs hs fun c _ => hof c⟩,
      hpos.of_runs hs (fun c _ => hr c) fun c _ => hto c, hpos'.of_runs hs fun c _ => hof c⟩, hlit⟩

/-- A channel goes on in its state and its run. -/
structure Meter.GoesOn (m m' : Meter) : Prop where
  ok : m'.Ok
  run : Channel.SameRun m.chan m'.chan
  state : m'.chan.state = m.chan.state

theorem Meter.Ok.goesOn (h : m.Ok) : m.GoesOn m := ⟨h, .refl _, rfl⟩

theorem Accord.meter (h : Accord s) (c : Chan) : (s.meter c).Ok := ((lightOk_iff s).mp h.light).1 c

/-- The same where every channel goes on in its state, and every bank. -/
theorem Accord.of_meters (h : Accord s) (hm : ∀ c, (s.meter c).GoesOn (t.meter c)) (hs : Stand s t)
    (hb : ∀ b, (t.bank b).state = (s.bank b).state) : Accord t := by
  have hst (c : Chan) : (t.chan c).state = (s.chan c).state := (hm c).state
  refine h.of_active (fun c => (hm c).ok) (fun c => (hm c).run) (fun c => congrArg ChanState.isActive (hst c))
    (fun c d _ hd => by rw [hst, hst, hd]) hs fun c => ?_
  rw [hst, hb]
  exact h.lit c

/-! ### A run that ends, and the phase that ends with it -/

/-- The invariants, but for a phase or a run that is over and has not been seen to be. -/
structure Unchecked (s : State) : Prop where
  light : LightOk s
  bed : BedHeld s
  position : PositionHeld s
  lit : LitOk s

theorem Accord.unchecked (h : Accord s) : Unchecked s :=
  have ⟨⟨hb, _⟩, hp, _⟩ := (phasesOk_iff s).mp h.phases
  ⟨h.light, hb, hp, h.lit⟩

theorem Accord.settled (h : Accord s) : BedSettled s ∧ PositionSettled s :=
  have ⟨⟨_, hb⟩, _, hp⟩ := (phasesOk_iff s).mp h.phases
  ⟨hb, hp⟩

theorem Unchecked.accord (h : Unchecked s) (hb : BedSettled s) (hp : PositionSettled s) : Accord s :=
  ⟨h.light, (phasesOk_iff s).mpr ⟨⟨h.bed, hb⟩, h.position, hp⟩, h.lit⟩

theorem Unchecked.of_bench (h : t.bench = s.bench) (hs : Unchecked s) : Unchecked t := by
  have hb : Unchecked t.bench := h ▸ (⟨⟨hs.light.records, hs.light.due, hs.light.live, hs.light.outstanding,
    hs.light.pairs⟩, ⟨hs.bed.backIdle, hs.bed.faceIdle, hs.bed.back, hs.bed.face, hs.bed.lanes⟩,
    ⟨hs.position.idle, hs.position.run, hs.position.positions⟩, hs.lit⟩ : Unchecked s.bench)
  exact ⟨⟨hb.light.records, hb.light.due, hb.light.live, hb.light.outstanding, hb.light.pairs⟩,
    ⟨hb.bed.backIdle, hb.bed.faceIdle, hb.bed.back, hb.bed.face, hb.bed.lanes⟩,
    ⟨hb.position.idle, hb.position.run, hb.position.positions⟩, hb.lit⟩

/-- Channels of whole runs, under way, end in one state that is neither RUNNING nor PAUSED nor IDLE; the others are as they
were. -/
theorem Unchecked.ended {run : List Chan} {st : ChanState} (h : Unchecked s)
    (hclosed : ∀ c d, (s.chan c).partner = some d → (c ∈ run ↔ d ∈ run)) (hst : st.isActive = false)
    (hmine : ∀ c ∈ run, (t.meter c).Ok ∧ Channel.SameRun (s.chan c) (t.chan c) ∧ (t.chan c).state = st)
    (hrest : ∀ c ∉ run, t.meter c = s.meter c) (hs : Stand s t) (hb : ∀ b, (t.bank b).state = (s.bank b).state) :
    Unchecked t := by
  have hr (c : Chan) : Channel.SameRun (s.chan c) (t.chan c) := by
    by_cases hc : c ∈ run
    · exact (hmine c hc).2.1
    · exact .of_eq (chan_of_meter (hrest c hc))
  have ha (c : Chan) : t.chanActive c = true → s.chanActive c = true := by
    by_cases hc : c ∈ run
    · rw [State.chanActive, (hmine c hc).2.2, hst]
      exact fun h => absurd h Bool.false_ne_true
    · rw [State.chanActive, chan_of_meter (hrest c hc)]
      exact id
  refine ⟨(lightOk_iff t).mpr ⟨fun c => ?_, PairsOk.of_runs (s := s) h.light.pairs hr fun c d hd heq => ?_⟩,
    h.bed.of_runs hs (fun c _ => hr c) fun c _ => ha c, h.position.of_runs hs (fun c _ => hr c) fun c _ => ha c,
    fun c => ?_⟩
  · by_cases hc : c ∈ run
    · exact (hmine c hc).1
    · rw [hrest c hc]
      exact ((lightOk_iff s).mp h.light).1 c
  · by_cases hc : c ∈ run
    · rw [(hmine c hc).2.2, (hmine d ((hclosed c d hd).mp hc)).2.2]
    · rw [chan_of_meter (hrest c hc), chan_of_meter (hrest d (mt (hclosed c d hd).mpr hc)), heq]
  · by_cases hc : c ∈ run
    · have hst' := (hmine c hc).2.2
      refine ⟨fun e => ?_, fun e => ?_⟩ <;> · rw [hst'] at e; subst e; cases hst
    · rw [chan_of_meter (hrest c hc), hb]
      exact h.lit c

/-- The owning block has seen the end of a phase of the frame (R83, R86). -/
theorem BedHeld.checked (h : BedHeld s) : BedHeld s.checkFramePhase ∧ BedSettled s.checkFramePhase := by
  cases hs : s.frame.state with
  | backRun =>
    rw [checkFramePhase_of_backRun hs]
    cases ha : s.chanActive .backA || s.chanActive .backB with
    | true =>
      rw [if_pos rfl]
      exact ⟨h, ⟨fun _ => ha, fun hf => (by cases hs.symm.trans hf)⟩⟩
    | false =>
      rw [if_neg Bool.false_ne_true]
      refine ⟨⟨fun hf => (by rcases hf with hf | hf <;> cases hf), fun _ _ => h.faceIdle (by simp [hs]) (by simp [hs]),
        fun hx => absurd (ha.symm.trans hx) Bool.false_ne_true, fun hx => ?_, h.lanes⟩,
        ⟨fun hf => (by cases hf), fun hf => (by cases hf)⟩⟩
      cases hs.symm.trans (h.face hx)
  | faceRun =>
    rw [checkFramePhase_of_faceRun hs]
    cases ha : s.chanActive .faceA || s.chanActive .faceB with
    | true =>
      rw [if_pos rfl]
      exact ⟨h, ⟨fun hf => (by cases hs.symm.trans hf), fun _ => ha⟩⟩
    | false =>
      rw [if_neg Bool.false_ne_true]
      refine ⟨⟨fun hf => (by rcases hf with hf | hf <;> cases hf), fun _ hf => absurd rfl hf, fun hx => ?_,
        fun hx => absurd (ha.symm.trans hx) Bool.false_ne_true, h.lanes⟩,
        ⟨fun hf => (by cases hf), fun hf => (by cases hf)⟩⟩
      cases hs.symm.trans (h.back hx)
  | empty | loaded | backEnd | faceEnd =>
    have he : s.checkFramePhase = s := by simp only [State.checkFramePhase, hs]
    rw [he]
    exact ⟨h, ⟨fun hf => (by cases hs.symm.trans hf), fun hf => (by cases hs.symm.trans hf)⟩⟩

/-- The owning block has seen the end of a finishing run (R158). -/
theorem PositionHeld.checked (h : PositionHeld s) :
    PositionHeld s.checkFinishPhase ∧ PositionSettled s.checkFinishPhase := by
  cases hs : s.finisher.state with
  | running =>
    cases ha : s.chanActive .detack || s.chanActive .post with
    | true =>
      have he : s.checkFinishPhase = s := by simp only [State.checkFinishPhase, hs, ha, if_true]
      rw [he]
      exact ⟨h, fun _ => ha⟩
    | false =>
      have he : s.checkFinishPhase
          = State.post { s with finisher := { s.finisher with state := .ended } } .D ⟨.phaseEnd, s.finisher.slot, 2⟩ := by
        simp only [State.checkFinishPhase, hs, ha, Bool.false_eq_true, if_false]
      rw [he]
      exact ⟨⟨fun hf => (by rcases hf with hf | hf <;> cases hf), fun hx => absurd (ha.symm.trans hx) Bool.false_ne_true,
        h.positions⟩, fun hf => (by cases hf)⟩
  | empty | loaded | ended =>
    have he : s.checkFinishPhase = s := by simp only [State.checkFinishPhase, hs]
    rw [he]
    exact ⟨h, fun hf => (by cases hs.symm.trans hf)⟩

/-- Seeing the end of a phase of the frame changes the frame's state and posts, and no more. -/
theorem checkFramePhase_eq (s : State) :
    ∃ st, s.checkFramePhase.bench = (s.setFrameState st).bench := by
  unfold State.checkFramePhase
  split
  · split
    · exact ⟨s.frame.state, rfl⟩
    · exact ⟨_, rfl⟩
  · split
    · exact ⟨s.frame.state, rfl⟩
    · exact ⟨_, rfl⟩
  all_goals exact ⟨s.frame.state, rfl⟩

/-- Seeing the end of a finishing run changes the position's state and posts, and no more. -/
theorem checkFinishPhase_eq (s : State) :
    ∃ st, s.checkFinishPhase.bench = State.bench { s with finisher := { s.finisher with state := st } } := by
  unfold State.checkFinishPhase
  split
  · split
    · exact ⟨s.finisher.state, rfl⟩
    · exact ⟨_, rfl⟩
  all_goals exact ⟨s.finisher.state, rfl⟩

theorem LightOk.setFrame (h : LightOk s) (v : FrameUnit) : LightOk { s with frame := v } :=
  ⟨h.records, h.due, h.live, h.outstanding, h.pairs⟩

theorem LightOk.setFinisher (h : LightOk s) (v : Finisher) : LightOk { s with finisher := v } :=
  ⟨h.records, h.due, h.live, h.outstanding, h.pairs⟩

theorem PositionHeld.of_bench (h : t.bench = s.bench) (hs : PositionHeld s) : PositionHeld t := by
  have hb : PositionHeld t.bench := h ▸ (⟨hs.idle, hs.run, hs.positions⟩ : PositionHeld s.bench)
  exact ⟨hb.idle, hb.run, hb.positions⟩

theorem BedHeld.of_bench (h : t.bench = s.bench) (hs : BedHeld s) : BedHeld t := by
  have hb : BedHeld t.bench := h ▸ (⟨hs.backIdle, hs.faceIdle, hs.back, hs.face, hs.lanes⟩ : BedHeld s.bench)
  exact ⟨hb.backIdle, hb.faceIdle, hb.back, hb.face, hb.lanes⟩

theorem PositionSettled.of_bench (h : t.bench = s.bench) (hs : PositionSettled s) : PositionSettled t :=
  (h ▸ (hs : PositionSettled s.bench) : PositionSettled t.bench)

theorem BedSettled.of_bench (h : t.bench = s.bench) (hs : BedSettled s) : BedSettled t := by
  have hb : BedSettled t.bench := h ▸ (⟨hs.back, hs.face⟩ : BedSettled s.bench)
  exact ⟨hb.back, hb.face⟩

/-- Once the owning block of a channel has seen whether its phase is over, the invariants hold, if the other block's do. -/
theorem Unchecked.checked (h : Unchecked s) (hb : c.lane = none → BedSettled s)
    (hp : c.lane.isSome = true → PositionSettled s) : Accord (s.checkPhase c) := by
  cases hc : c.lane with
  | some l =>
    have he : s.checkPhase c = s.checkFramePhase := by simp only [State.checkPhase, hc]
    obtain ⟨st, hbench⟩ := checkFramePhase_eq s
    obtain ⟨hbed, hbed'⟩ := h.bed.checked
    have hpos : PositionHeld (s.setFrameState st) := ⟨h.position.idle, h.position.run, h.position.positions⟩
    have hpos' : PositionSettled (s.setFrameState st) := hp (hc ▸ rfl)
    have hlit : LitOk (s.setFrameState st) := h.lit
    rw [he]
    exact Unchecked.accord ⟨(h.light.setFrameState st).of_bench hbench, hbed, hpos.of_bench hbench, hlit.of_bench hbench⟩
      hbed' (hpos'.of_bench hbench)
  | none =>
    have he : s.checkPhase c = s.checkFinishPhase := by simp only [State.checkPhase, hc]
    obtain ⟨st, hbench⟩ := checkFinishPhase_eq s
    obtain ⟨hpos, hpos'⟩ := h.position.checked
    have hbed : BedHeld { s with finisher := { s.finisher with state := st } } :=
      ⟨h.bed.backIdle, h.bed.faceIdle, h.bed.back, h.bed.face, h.bed.lanes⟩
    have hbed' : BedSettled { s with finisher := { s.finisher with state := st } } :=
      ⟨(hb hc).back, (hb hc).face⟩
    have hlit : LitOk { s with finisher := { s.finisher with state := st } } := h.lit
    rw [he]
    exact Unchecked.accord ⟨(h.light.setFinisher _).of_bench hbench, hbed.of_bench hbench, hpos, hlit.of_bench hbench⟩
      (hbed'.of_bench hbench) hpos'

end

end Sys2Proof.Machine
end

section
/-! What the Light Integrator and the Sensor Link do, channel by channel: a channel that leaves RUNNING (R106, R112, R114,
R116, R118), the run that ends with it, the samples (R105 to R107, R110 to R113) and the banks (R95 to R97, R116, R117). -/

namespace Sys2Proof.Machine

section
variable {s t u : State} {c d : Chan} {m : Meter} {st : ChanState} {res : Option StopResult} {n : Nat}

/-! ### The meters after a change of one channel -/

theorem modChan_modChan (s : State) (c : Chan) (f g : Channel → Channel) :
    (s.modChan c f).modChan c g = s.modChan c fun k => g (f k) := by
  simp [State.modChan]

theorem meter_modChan_self (s : State) (c : Chan) (f : Channel → Channel) :
    (s.modChan c f).meter c = ⟨f (s.chan c), (s.meter c).due, (s.meter c).read⟩ :=
  congrArg (Meter.mk · _ _) (State.chan_modChan_self s c f)

theorem meter_modChan_ne (s : State) (f : Channel → Channel) (h : d ≠ c) : (s.modChan c f).meter d = s.meter d :=
  meter_congr (State.chan_modChan_ne s f h) rfl

theorem due_set_ne (v : Vector (Option Nat) 6) (o : Option Nat) (h : d ≠ c) : (v.set c.index o)[d.index] = v[d.index] :=
  Vector.getElem_set_ne _ _ fun e => h (Chan.index_injective (Fin.ext e.symm))

theorem readOf_drop_self (k : Link) (c : Chan) : (k.drop c).readOf c = (k.readOf c).map fun _ => false := by
  cases hb : k.busy with
  | none => simp [Link.readOf, Link.drop, hb]
  | some r => by_cases hr : r.chan = c <;> simp [Link.readOf, Link.drop, hb, hr]

theorem readOf_drop_ne (k : Link) (h : d ≠ c) : (k.drop c).readOf d = k.readOf d := by
  cases hb : k.busy with
  | none => simp [Link.readOf, Link.drop, hb]
  | some r => by_cases hr : r.chan = c <;> simp [Link.readOf, Link.drop, hb, hr, h.symm]

/-- A channel's record is changed, and its request withdrawn or its reading to be discarded (R106). -/
def State.leaving (s : State) (c : Chan) (f : Channel → Channel) : State :=
  State.modChan { s with link := s.link.drop c } c f

theorem withdraw_modChan (s : State) (c : Chan) (g : Channel → Channel) : (s.withdraw c).modChan c g
    = s.leaving c fun k => g { k with readOutstanding := (s.meter c).read.isSome && k.readOutstanding } := by
  rw [State.withdraw, modChan_modChan, linkCarries_eq]; rfl

theorem meter_leaving_self (s : State) (c : Chan) (f : Channel → Channel) :
    (s.leaving c f).meter c = ⟨f (s.chan c), none, (s.meter c).read.map fun _ => false⟩ := by
  rw [State.leaving, meter_modChan_self]
  exact congrArg₂ (Meter.mk _) (by simp [State.meter, Link.drop]) (readOf_drop_self ..)

theorem meter_leaving_ne (s : State) (f : Channel → Channel) (h : d ≠ c) : (s.leaving c f).meter d = s.meter d := by
  rw [State.leaving, meter_modChan_ne _ _ h]
  exact congrArg₂ (Meter.mk _) (due_set_ne _ _ h) (readOf_drop_ne _ h)

/-! ### A channel that leaves RUNNING -/

/-- What is held of a channel once it has left RUNNING for another state: its read stays outstanding only while it is on
the link (R106). -/
def Meter.left (m : Meter) (st : ChanState) (res : Option StopResult) : Meter :=
  ⟨{ m.chan with
      state := st, result := res, interval := none, readOutstanding := m.read.isSome && m.chan.readOutstanding },
    none, m.read.map fun _ => false⟩

/-- The same with another count of bad samples, as the third bad sample in a row leaves it (R112). -/
theorem Meter.Ok.left (h : m.Ok) (ha : m.chan.state.isActive = true) (hst : st ≠ .idle ∧ st ≠ .running)
    (hres : res.isSome = true ↔ st = .stopped) (hn : n ≤ 3 ∧ (n = 3 → st = .failed)) :
    (Meter.left ⟨{ m.chan with badCount := n }, m.due, m.read⟩ st res).Ok where
  record :=
    { idle := fun e => absurd e hst.1
      slot := fun _ => h.record.slot fun e => by rw [e] at ha; cases ha
      need := fun _ => h.record.need ha
      interval := ⟨fun e => absurd e Bool.false_ne_true, fun e => absurd e hst.2⟩
      result := hres
      accumulator := h.record.accumulator
      badCount := hn }
  due e := by cases e
  live e := by simp [Meter.left] at e
  outstanding e := .inr (by simpa [Meter.left] using (Bool.and_eq_true_iff.mp e).1)

theorem meter_stopChan_self (s : State) (r : StopResult) (c : Chan) :
    (s.stopChan r c).meter c = (s.meter c).left .stopped (some r) := by
  rw [State.stopChan, withdraw_modChan, meter_leaving_self]; rfl

theorem meter_stopChan_ne (s : State) (r : StopResult) (h : d ≠ c) : (s.stopChan r c).meter d = s.meter d := by
  rw [State.stopChan, withdraw_modChan, meter_leaving_ne _ _ h]

theorem meter_failChan_self (s : State) (c : Chan) :
    (s.failChan c).meter c = (s.meter c).left .failed (s.chan c).result := by
  rw [State.failChan, withdraw_modChan, meter_leaving_self]; rfl

theorem meter_failChan_ne (s : State) (h : d ≠ c) : (s.failChan c).meter d = s.meter d := by
  rw [State.failChan, withdraw_modChan, meter_leaving_ne _ _ h]

/-! ### Several channels in turn -/

/-- The bed, the banks and the finisher position. -/
def State.mounts (s : State) : FrameUnit × Vector BankRec 4 × Finisher := (s.frame, s.banks, s.finisher)

/-- The turns of several channels leave the bed, the banks and the position, where each does. -/
theorem foldl_mounts {op : State → Chan → State} (hop : ∀ s c, (op s c).mounts = s.mounts) (l : List Chan) (s : State) :
    (l.foldl op s).mounts = s.mounts := by
  induction l generalizing s with
  | nil => rfl
  | cons c l ih => exact (ih _).trans (hop s c)

theorem stand_of_mounts (h : t.mounts = s.mounts) : Stand s t :=
  .of_eq (congrArg Prod.fst h) (congrArg (fun m => m.2.2) h)

theorem bank_of_mounts (h : t.mounts = s.mounts) (b : Bank) : t.bank b = s.bank b :=
  congrArg (fun m => m.2.1[b.index]) h

/-- A change that acts on each channel's own meter acts so on each channel of a list. -/
theorem foldl_meter {op : State → Chan → State} {R : Meter → Meter → Prop}
    (hself : ∀ s c, R (s.meter c) ((op s c).meter c)) (hne : ∀ s c d, d ≠ c → (op s c).meter d = s.meter d)
    {l : List Chan} (hl : l.Nodup) (s : State) (d : Chan) :
    (d ∈ l → R (s.meter d) ((l.foldl op s).meter d)) ∧ (d ∉ l → (l.foldl op s).meter d = s.meter d) := by
  induction l generalizing s with
  | nil => exact ⟨fun h => absurd h List.not_mem_nil, fun _ => rfl⟩
  | cons c l ih =>
    obtain ⟨hc, hl⟩ := List.nodup_cons.mp hl
    obtain ⟨hmem, hout⟩ := ih hl (op s c)
    rw [List.foldl_cons, List.mem_cons, not_or]
    refine ⟨fun h => ?_, fun h => (hout h.2).trans (hne s c d h.1)⟩
    by_cases hd : d = c
    · subst hd
      rw [hout hc]
      exact hself s d
    · rw [← hne s c d hd]
      exact hmem (h.resolve_left hd)

/-! ### The run of a channel (R50) -/

theorem mem_runOf : d ∈ s.runOf c ↔ d = c ∨ (s.chan c).partner = some d := by
  unfold State.runOf
  split
  next e he => simp [he, eq_comm]
  next he => simp [he]

theorem runOf_congr (h : (t.chan c).partner = (s.chan c).partner) : t.runOf c = s.runOf c := by
  simp only [State.runOf, h]

theorem partnerOf_ne (h : Chan.partnerOf c = some d) : d ≠ c := by
  rintro rfl
  cases d <;> cases h

theorem partnerOf_unit (h : Chan.partnerOf c = some d) : d.lane.isSome = c.lane.isSome ∧ d.bank = c.bank := by
  cases c <;> cases h <;> exact ⟨rfl, rfl⟩

section
variable (h : PairsOk s)
include h

theorem PairsOk.runOf_nodup (c : Chan) : (s.runOf c).Nodup := by
  unfold State.runOf
  split
  next d hd => simpa using (partnerOf_ne (h c d hd).1).symm
  · simp

theorem PairsOk.runOf_closed {x y : Chan} (hxy : (s.chan x).partner = some y) : x ∈ s.runOf c ↔ y ∈ s.runOf c := by
  obtain ⟨-, hyx, -⟩ := h x y hxy
  rw [mem_runOf, mem_runOf]
  constructor
  · rintro (rfl | hx)
    · exact .inr hxy
    · obtain ⟨-, hxc, -⟩ := h c x hx
      exact .inl (Option.some.inj (hxy.symm.trans hxc))
  · rintro (rfl | hy)
    · exact .inr hyx
    · obtain ⟨-, hyc, -⟩ := h c y hy
      exact .inl (Option.some.inj (hyx.symm.trans hyc))

theorem PairsOk.runOf_state (hd : d ∈ s.runOf c) : (s.chan d).state = (s.chan c).state := by
  rcases mem_runOf.mp hd with rfl | hd
  · rfl
  · exact (h c d hd).2.2.1

theorem PairsOk.runOf_unit (hd : d ∈ s.runOf c) : d.lane.isSome = c.lane.isSome := by
  rcases mem_runOf.mp hd with rfl | hd
  · rfl
  · exact (partnerOf_unit (h c d hd).1).1

end

/-! ### The end of a run (R112, R114, R118) -/

/-- Nothing that the invariants speak of is changed, but for the marks on the bed and in the position. -/
structure Untouched (s t : State) : Prop where
  meters : ∀ c, t.meter c = s.meter c
  stand : Stand s t
  banks : ∀ b, (t.bank b).state = (s.bank b).state

theorem Untouched.of_bench (h : t.bench = s.bench) : Untouched s t where
  meters c := (congrArg (State.meter · c) h :)
  stand := .of_eq (congrArg State.frame h :) (congrArg State.finisher h :)
  banks b := (congrArg (fun u : State => (u.bank b).state) h :)

theorem Untouched.trans (h : Untouched s t) (k : Untouched t u) : Untouched s u :=
  ⟨fun c => (k.meters c).trans (h.meters c), h.stand.trans k.stand, fun b => (k.banks b).trans (h.banks b)⟩

theorem untouched_deliver (s : State) (c : Chan) (n : Nat) : Untouched s (s.deliver c n) :=
  .of_bench (bench_modPlateOpt ..)

theorem untouched_markPlate (s : State) (c : Chan) (m : Mark) : Untouched s (s.markPlate c m) :=
  .of_bench (bench_modPlateOpt ..)

theorem untouched_postStop (s : State) (c : Chan) (n : Nat) : Untouched s (s.postStop c n) := .of_bench (bench_post ..)

theorem untouched_noted (s : State) (run : List Chan) (short failure : Bool) :
    Untouched s (s.noted run short failure) :=
  ⟨fun _ => rfl, ⟨rfl, rfl, rfl, rfl, rfl⟩, fun _ => rfl⟩

theorem untouched_learnReference (s : State) (b : Bank) (m f : Nat) : Untouched s (s.learnReference b m f) := by
  refine ⟨fun _ => ?_, ?_, fun e => ?_⟩ <;> rw [learnReference_eq]
  · rfl
  · exact .of_eq rfl rfl
  · by_cases he : e = b
    · rw [he, State.bank_modBank_self]
    · rw [State.bank_modBank_ne _ _ he]

/-- The run of a channel has left RUNNING or PAUSED for one state; nothing else of the bench has changed, but for marks. -/
structure State.RunLeft (s : State) (c : Chan) (st : ChanState) (t : State) : Prop where
  mine : ∀ d ∈ s.runOf c,
    (t.meter d).Ok ∧ Channel.SameRun (s.meter d).chan (t.meter d).chan ∧ (t.meter d).chan.state = st
  rest : ∀ d ∉ s.runOf c, t.meter d = s.meter d
  stand : Stand s t
  banks : ∀ b, (t.bank b).state = (s.bank b).state

theorem State.RunLeft.untouched (h : s.RunLeft c st t) (k : Untouched t u) : s.RunLeft c st u where
  mine d hd := by
    rw [k.meters]
    exact h.mine d hd
  rest d hd := (k.meters d).trans (h.rest d hd)
  stand := h.stand.trans k.stand
  banks b := (k.banks b).trans (h.banks b)

theorem State.RunLeft.unchecked (h : s.RunLeft c st t) (hs : Unchecked s) (hst : st.isActive = false) : Unchecked t :=
  hs.ended (fun _ _ => PairsOk.runOf_closed hs.light.pairs) hst h.mine h.rest h.stand h.banks

/-- A channel of the other block is as it was. -/
theorem State.RunLeft.elsewhere (h : s.RunLeft c st t) (hs : LightOk s) (hd : d.lane.isSome ≠ c.lane.isSome) :
    t.chan d = s.chan d :=
  chan_of_meter (h.rest d fun hm => hd (PairsOk.runOf_unit hs.pairs hm))

/-- The run ends, and the owning block sees whether its phase is over. -/
theorem State.RunLeft.checked (h : s.RunLeft c st t) (hs : Accord s) (hst : st.isActive = false) :
    Accord (t.checkPhase c) := by
  obtain ⟨hbed, hpos⟩ := hs.settled
  refine (h.unchecked hs.unchecked hst).checked (fun hc => hbed.of_runs h.stand fun d hd ha => ?_)
    fun hc => hpos.of_runs h.stand fun d hd ha => ?_
  all_goals
    rw [State.chanActive, h.elsewhere hs.light (by simp [hd, hc])]
    exact ha

theorem Channel.SameRun.left (h : m.chan.state.isActive = true) (hst : st ≠ .idle) :
    Channel.SameRun m.chan (m.left st res).chan :=
  ⟨rfl, rfl, rfl, rfl, fun e => absurd e hst, fun e => by rw [e] at h; cases h⟩

theorem PairsOk.runOf_active (h : PairsOk s) (ha : s.chanActive c = true) (hd : d ∈ s.runOf c) :
    (s.chan d).state.isActive = true := by
  rw [h.runOf_state hd]
  exact ha

theorem stopRun_left (h : LightOk s) (ha : s.chanActive c = true) (r : StopResult) :
    s.RunLeft c .stopped ((s.runOf c).foldl (fun t d => t.stopChan r d) s) := by
  have hp : PairsOk s := h.pairs
  have hmeter := foldl_meter (op := fun t d => t.stopChan r d) (R := fun m m' => m' = m.left .stopped (some r))
    (fun s c => meter_stopChan_self s r c) (fun s c d hd => meter_stopChan_ne s r hd) (hp.runOf_nodup c) s
  have hmount := foldl_mounts (op := fun t d => t.stopChan r d) (fun _ _ => rfl) (s.runOf c) s
  refine ⟨fun d hd => ?_, fun d => (hmeter d).2, stand_of_mounts hmount, fun b => by rw [bank_of_mounts hmount]⟩
  · have hm := (hmeter d).1 hd
    have hact : (s.meter d).chan.state.isActive = true := hp.runOf_active ha hd
    have hok := ((lightOk_iff s).mp h).1 d
    rw [hm]
    refine ⟨hok.left (n := (s.chan d).badCount) hact ⟨by decide, by decide⟩ ⟨fun _ => rfl, fun _ => rfl⟩
      ⟨hok.record.badCount.1, fun e => ?_⟩,
      .left hact (by decide), rfl⟩
    rw [hok.record.badCount.2 e] at hact
    cases hact

/-- A run fails, at whatever count of bad samples of the channel c. -/
theorem failedRun_left (h : LightOk s) (ha : s.chanActive c = true) (hn : n ≤ 3)
    (hu : u = s.modChan c fun k => { k with badCount := n }) : s.RunLeft c .failed ((s.runOf c).foldl State.failChan u) := by
  have hp : PairsOk s := h.pairs
  have hmeter := foldl_meter (op := State.failChan) (R := fun m m' => m' = m.left .failed m.chan.result)
    meter_failChan_self (fun s c d => meter_failChan_ne s) (hp.runOf_nodup c) u
  have hcount (d : Chan) : ∃ k, k ≤ 3
      ∧ u.meter d = ⟨{ s.chan d with badCount := k }, (s.meter d).due, (s.meter d).read⟩ := by
    by_cases hd : d = c
    · subst hd hu
      exact ⟨n, hn, meter_modChan_self ..⟩
    · subst hu
      exact ⟨_, (h.records d).badCount.1, meter_modChan_ne _ _ hd⟩
  have hmount : ((s.runOf c).foldl State.failChan u).mounts = s.mounts :=
    (foldl_mounts (op := State.failChan) (fun _ _ => rfl) _ u).trans (by rw [hu]; rfl)
  refine ⟨fun d hd => ?_, fun d hd => ?_, stand_of_mounts hmount, fun b => by rw [bank_of_mounts hmount]⟩
  · have hact : (s.meter d).chan.state.isActive = true := hp.runOf_active ha hd
    have hok := ((lightOk_iff s).mp h).1 d
    obtain ⟨k, hk, hmu⟩ := hcount d
    have hm := (hmeter d).1 hd
    rw [hmu] at hm
    have hres : (s.meter d).chan.result.isSome = true ↔ ChanState.failed = .stopped := by
      rw [hok.record.result]
      exact ⟨fun e => (by rw [e] at hact; cases hact), fun e => (by cases e)⟩
    rw [hm]
    exact ⟨hok.left hact ⟨by decide, by decide⟩ hres ⟨hk, fun _ => rfl⟩,
      ⟨rfl, rfl, rfl, rfl, fun e => (by cases e), fun e => (by rw [e] at hact; cases hact)⟩, rfl⟩
  · rw [(hmeter d).2 hd, hu, meter_modChan_ne _ _ fun e => hd (mem_runOf.mpr (.inl e))]

theorem stopReached_left (h : LightOk s) (ha : s.chanActive c = true) : s.RunLeft c .stopped (s.stopReached c) :=
  (stopRun_left h ha .reached).untouched (((untouched_deliver ..).trans (untouched_learnReference ..)).trans
    (untouched_postStop ..))

theorem stopTimeLimit_left (h : LightOk s) (ha : s.chanActive c = true) : s.RunLeft c .stopped (s.stopTimeLimit c) := by
  rw [State.stopTimeLimit, foldl_noteShort]
  exact (stopRun_left h ha .timeLimit).untouched ((((untouched_deliver ..).trans (untouched_markPlate ..)).trans
    (untouched_postStop ..)).trans (untouched_noted ..))

theorem abortRun_left (h : LightOk s) (ha : s.chanActive c = true) : s.RunLeft c .stopped (s.abortRun c) := by
  rw [State.abortRun, if_pos ha]
  exact (stopRun_left h ha .aborted).untouched (untouched_deliver ..)

theorem failRun_left (h : LightOk s) (ha : s.chanActive c = true) (hn : n ≤ 3)
    (hu : u = s.modChan c fun k => { k with badCount := n }) : s.RunLeft c .failed (u.failRun c) := by
  have hrun : u.runOf c = s.runOf c := by
    subst hu
    exact runOf_congr (by rw [State.chan_modChan_self])
  rw [State.failRun, foldl_noteFailure, hrun]
  exact (failedRun_left h ha hn hu).untouched ((((untouched_deliver ..).trans (untouched_markPlate ..)).trans
    (untouched_postStop ..)).trans (untouched_noted ..))

end

end Sys2Proof.Machine
end

section
/-! The samples, the transactions on the link, and the banks keep the light invariants (R94 to R97, R105 to R107, R110 to
R117). -/

namespace Sys2Proof.Machine

section
variable {s t : State} {b : Bank} {c d : Chan} {m : Meter} {n : Nat}

/-! ### A sample falls due (R105, R106) -/

/-- What is held of a channel whose sample has fallen due. -/
def Meter.sampled (m : Meter) (ts : Nat) : Meter :=
  ⟨{ m.chan with readOutstanding := true, interval := some ts }, m.chan.interval, m.read⟩

theorem Meter.Ok.sampled (h : m.Ok) (hrun : m.chan.state = .running) (hr : m.read = none) (ts : Nat) :
    (m.sampled ts).Ok where
  record := { h.record with
    idle := fun e => by cases hrun.symm.trans e
    interval := ⟨fun _ => hrun, fun _ => rfl⟩ }
  due _ := ⟨hrun, rfl, hr⟩
  live e := by cases hr.symm.trans e
  outstanding _ := .inl (h.record.interval.mpr hrun)

theorem meter_fallDue_self (s : State) (c : Chan) : (s.fallDue c).meter c = (s.meter c).sampled s.intervalNow := by
  rw [State.fallDue, meter_modChan_self]
  exact congrArg (Meter.mk _ · _) (by simp [State.meter])

theorem meter_fallDue_ne (s : State) (h : d ≠ c) : (s.fallDue c).meter d = s.meter d := by
  rw [State.fallDue, meter_modChan_ne _ _ h]
  exact congrArg (Meter.mk _ · _) (due_set_ne _ _ h)

theorem canFallDue_iff : s.canFallDue c = true ↔
    (s.chan c).state = .running ∧ (s.chan c).readOutstanding = false ∧ (s.meter c).read = none := by
  simp [State.canFallDue, linkCarries_eq, and_assoc]

theorem Accord.sampleDue (h : Accord s) (c : Chan) : Accord (s.sampleDue c) := by
  unfold State.sampleDue
  split
  next hall =>
    have hmeter := foldl_meter (op := State.fallDue) (R := fun m m' => ∃ ts, m' = m.sampled ts)
      (fun s c => ⟨_, meter_fallDue_self s c⟩) (fun s c d => meter_fallDue_ne s) (PairsOk.runOf_nodup h.light.pairs c) s
    have hmount := foldl_mounts (op := State.fallDue) (fun _ _ => rfl) (s.runOf c) s
    refine h.of_meters (fun d => ?_) (stand_of_mounts hmount) fun b => by rw [bank_of_mounts hmount]
    by_cases hd : d ∈ s.runOf c
    · obtain ⟨ts, hts⟩ := (hmeter d).1 hd
      obtain ⟨hrun, -, hr⟩ := canFallDue_iff.mp (List.all_eq_true.mp hall d hd)
      rw [hts]
      exact ⟨(h.meter d).sampled hrun hr ts, ⟨rfl, rfl, rfl, rfl, Iff.rfl⟩, rfl⟩
    · rw [(hmeter d).2 hd]
      exact (h.meter d).goesOn
  · exact h

/-! ### A transaction begins and ends (R107) -/

theorem Link.due_of_nextDue {k : Link} {ts : Nat} (h : k.nextDue = some (c, ts)) : k.due[c.index] = some ts := by
  obtain ⟨e, -, he⟩ := List.exists_of_findSome?_eq_some h
  obtain ⟨ts', hts, heq⟩ := Option.map_eq_some_iff.mp he
  cases heq
  exact hts

theorem meter_begun_self (s : State) (c : Chan) (ts : Nat) (wire : List WireSymbol) :
    State.meter { s with link := ⟨some ⟨c, ts, true⟩, s.link.due.set c.index none, wire⟩ } c
      = ⟨s.chan c, none, some true⟩ := by
  simp [State.meter, Link.readOf, State.chan]

theorem meter_begun_ne (hb : s.link.busy = none) (h : d ≠ c) (ts : Nat) (wire : List WireSymbol) :
    State.meter { s with link := ⟨some ⟨c, ts, true⟩, s.link.due.set c.index none, wire⟩ } d = s.meter d :=
  congrArg₂ (Meter.mk _) (due_set_ne _ _ h) (by simp [Link.readOf, hb, Ne.symm h])

theorem Meter.Ok.begun {ts : Nat} (h : m.Ok) (hd : m.due = some ts) : (Meter.mk m.chan none (some true)).Ok where
  record := h.record
  due e := by cases e
  live _ := have ⟨hrun, ho, _⟩ := h.due (by rw [hd]; rfl); ⟨hrun, ho⟩
  outstanding _ := .inr rfl

theorem Accord.begin (h : Accord s) : Accord { s with link := s.link.begin } := by
  refine h.of_meters (fun c => ?_) (.of_eq rfl rfl) fun _ => rfl
  unfold Link.begin
  split
  next => exact (h.meter c).goesOn
  next hb =>
    split
    next e ts he =>
      by_cases hc : c = e
      · subst hc
        rw [meter_begun_self]
        exact ⟨(h.meter c).begun (ts := ts) (Link.due_of_nextDue he), .refl _, rfl⟩
      · rw [meter_begun_ne hb hc]
        exact (h.meter c).goesOn
    next => exact (h.meter c).goesOn

theorem meter_endRead_self (s : State) (r : LinkRead) (answer : Option Word) :
    (s.endRead r answer).meter r.chan = ⟨{ s.chan r.chan with readOutstanding := false }, (s.meter r.chan).due, none⟩ :=
  meter_modChan_self ..

theorem meter_endRead_ne {r : LinkRead} (hb : s.link.busy = some r) (answer : Option Word) (h : d ≠ r.chan) :
    (s.endRead r answer).meter d = s.meter d := by
  rw [State.endRead, meter_modChan_ne _ _ h]
  exact congrArg (Meter.mk _ _) (by simp [Link.readOf, hb, Ne.symm h])

theorem Meter.Ok.readEnded (h : m.Ok) (hr : m.read.isSome = true) :
    (Meter.mk { m.chan with readOutstanding := false } m.due none).Ok := by
  have hdue : m.due = none := Option.not_isSome_iff_eq_none.mp fun hd => by simp [(h.due hd).2.2] at hr
  exact .of_quiet { h.record with idle := fun e => by rw [h.record.idle e]; rfl } rfl hdue nofun

theorem Accord.endRead {r : LinkRead} (h : Accord s) (hb : s.link.busy = some r) (answer : Option Word) :
    Accord (s.endRead r answer) := by
  refine h.of_meters (fun d => ?_) (.of_eq rfl rfl) fun _ => rfl
  by_cases hd : d = r.chan
  · subst hd
    rw [meter_endRead_self]
    exact ⟨(h.meter r.chan).readEnded (by simp [State.meter, Link.readOf, hb]), ⟨rfl, rfl, rfl, rfl, Iff.rfl⟩, rfl⟩
  · rw [meter_endRead_ne hb answer hd]
    exact (h.meter d).goesOn

/-! ### A reading is credited (R110 to R114) -/

/-- Only the figures of a channel have changed, within their bounds. -/
def Channel.Recounted (k l : Channel) : Prop :=
  ∃ acc el good bad, acc ≤ 2 ^ 48 - 1 ∧ bad ≤ 2
    ∧ l = { k with accumulator := acc, elapsed := el, lastGood := good, badCount := bad }

theorem Accord.recount {f : Channel → Channel} (h : Accord s) (ha : s.chanActive c = true)
    (hf : Channel.Recounted (s.chan c) (f (s.chan c))) : Accord (s.modChan c f) := by
  refine h.of_meters (fun d => ?_) (.of_eq rfl rfl) fun _ => rfl
  by_cases hd : d = c
  · subst hd
    obtain ⟨acc, el, good, bad, hacc, hbad, hk⟩ := hf
    have hok := h.meter d
    rw [meter_modChan_self, hk]
    exact ⟨⟨{ hok.record with
        idle := fun e => absurd e (State.chanActive_not_idle ha)
        accumulator := hacc
        badCount := ⟨hbad.trans (by decide), fun e => absurd (hbad.trans_lt (by decide)) e.not_lt⟩ },
      hok.due, hok.live, hok.outstanding⟩, ⟨rfl, rfl, rfl, rfl, Iff.rfl⟩, rfl⟩
  · rw [meter_modChan_ne _ _ hd]
    exact (h.meter d).goesOn

theorem Accord.testRun (h : Accord s) (ha : s.chanActive c = true) : Accord (s.testRun c) := by
  unfold State.testRun
  split
  · exact (stopReached_left h.light ha).checked h rfl
  split
  · exact (stopTimeLimit_left h.light ha).checked h rfl
  · exact h

theorem chanActive_modChan {f : Channel → Channel} (ha : s.chanActive c = true)
    (hf : Channel.Recounted (s.chan c) (f (s.chan c))) : (s.modChan c f).chanActive c = true := by
  obtain ⟨_, _, _, _, -, -, hk⟩ := hf
  rw [State.chanActive, State.chan_modChan_self, hk]
  exact ha

theorem Accord.badCount_le (h : Accord s) (ha : s.chanActive c = true) : (s.chan c).badCount ≤ 2 := by
  obtain ⟨hle, hthree⟩ := (h.light.records c).badCount
  refine Nat.le_of_lt_succ (lt_of_le_of_ne hle fun e => ?_)
  rw [State.chanActive, hthree e] at ha
  cases ha

theorem Accord.creditSample (h : Accord s) (ha : s.chanActive c = true) (reading ts : Nat) :
    Accord (s.creditSample c reading ts) :=
  have hf : Channel.Recounted (s.chan c) _ := ⟨_, _, _, _, doseAdd_le .., h.badCount_le ha, rfl⟩
  (h.recount ha hf).testRun (chanActive_modChan ha hf)

theorem Accord.goodSample (h : Accord s) (ha : s.chanActive c = true) (reading ts : Nat) :
    Accord (s.goodSample c reading ts) := by
  have hf : Channel.Recounted (s.chan c) { s.chan c with lastGood := reading, badCount := 0 } :=
    ⟨_, _, _, _, (h.light.records c).accumulator, Nat.zero_le _, rfl⟩
  have ht := h.recount (f := fun k => { k with lastGood := reading, badCount := 0 }) ha hf
  have ha' := chanActive_modChan (f := fun k => { k with lastGood := reading, badCount := 0 }) ha hf
  unfold State.goodSample
  split
  · refine (ht.of_bench (bench_modPlateOpt ..)).creditSample ?_ reading ts
    exact (chanActive_congr (chan_of_meter ((untouched_markPlate ..).meters c))).trans ha'
  · exact ht.creditSample ha' reading ts

theorem Accord.badSample (h : Accord s) (ha : s.chanActive c = true) (ts : Nat) : Accord (s.badSample c ts) := by
  unfold State.badSample
  split
  next hlt =>
    have hf : Channel.Recounted (s.chan c) { s.chan c with badCount := (s.chan c).badCount + 1 } :=
      ⟨_, _, _, _, (h.light.records c).accumulator, hlt, rfl⟩
    exact (h.recount (f := fun k => { k with badCount := k.badCount + 1 }) ha hf).creditSample
      (chanActive_modChan (f := fun k => { k with badCount := k.badCount + 1 }) ha hf) ..
  · exact (failRun_left h.light ha (n := (s.chan c).badCount + 1) (Nat.succ_le_succ (h.badCount_le ha)) rfl).checked h rfl

theorem Accord.readComplete (h : Accord s) (answer : Option Word) : Accord (s.readComplete answer) := by
  unfold State.readComplete
  split
  next r hb =>
    have he := h.endRead hb answer
    unfold State.creditRead
    split
    next hcred =>
      have ha : (s.endRead r answer).chanActive r.chan = true := by
        rw [State.chanActive, eq_of_beq (Bool.and_eq_true_iff.mp hcred).2]; rfl
      split
      · exact he.goodSample ha ..
      · exact he.badSample ha ..
    · exact he
  · exact h

/-! ### The banks (R95 to R97, R116, R117) -/

/-- A bank is switched: its channels pause or resume, each by its state alone. -/
theorem Accord.switched {step : ChanState → ChanState} (h : Accord s)
    (hmine : ∀ c, c.bank = b → (t.meter c).Ok ∧ Channel.SameRun (s.meter c).chan (t.meter c).chan
      ∧ (t.meter c).chan.state = step (s.chan c).state)
    (hact : ∀ c, c.bank = b → (step (s.chan c).state).isActive = (s.chan c).state.isActive)
    (hlit : ∀ c, c.bank = b → (step (s.chan c).state = .running → (t.bank b).state = .ready)
      ∧ (step (s.chan c).state = .paused → (t.bank b).state ≠ .ready))
    (hrest : ∀ c, c.bank ≠ b → t.meter c = s.meter c) (hbank : ∀ e, e ≠ b → t.bank e = s.bank e) (hs : Stand s t) :
    Accord t := by
  have hchan (c : Chan) (hc : c.bank ≠ b) : t.chan c = s.chan c := chan_of_meter (hrest c hc)
  have hstate (c : Chan) (hc : c.bank = b) : (t.chan c).state = step (s.chan c).state := (hmine c hc).2.2
  refine h.of_active (fun c => ?_) (fun c => ?_) (fun c => ?_) (fun c d hd heq => ?_) hs fun c => ?_
  all_goals by_cases hc : c.bank = b
  · exact (hmine c hc).1
  · rw [hrest c hc]
    exact h.meter c
  · exact (hmine c hc).2.1
  · exact .of_eq (hchan c hc)
  · rw [State.chanActive, hstate c hc, hact c hc]; rfl
  · exact chanActive_congr (hchan c hc)
  · have hbank' := (partnerOf_unit (h.light.pairs c d hd).1).2
    rw [hstate c hc, hstate d (hbank'.trans hc), heq]
  · have hbank' := (partnerOf_unit (h.light.pairs c d hd).1).2
    rw [hchan c hc, hchan d (hbank' ▸ hc), heq]
  · rw [hstate c hc, hc]
    exact hlit c hc
  · rw [hchan c hc, hbank _ hc]
    exact h.lit c

theorem Bank.mem_chans : c ∈ b.chans ↔ c.bank = b := by
  rw [← List.contains_iff_mem, Bank.contains_chans, decide_eq_true_iff]

theorem Bank.nodup_chans (b : Bank) : b.chans.Nodup := by cases b <;> decide

/-- What is held of a channel that has resumed, if it was PAUSED (R117). -/
theorem Meter.Ok.resumed (h : m.Ok) (ts : Nat) : (Meter.mk (m.chan.resumed ts) m.due m.read).Ok
    ∧ Channel.SameRun m.chan (m.chan.resumed ts)
    ∧ (m.chan.resumed ts).state = if m.chan.state = .paused then .running else m.chan.state := by
  unfold Channel.resumed
  split
  next hp =>
    obtain ⟨hdue, hlive⟩ := h.quiet (by rw [hp]; decide)
    refine ⟨⟨{ h.record with
        idle := fun e => by cases e
        slot := fun _ => h.record.slot (by rw [hp]; decide)
        need := fun _ => h.record.need (by rw [hp]; rfl)
        interval := ⟨fun _ => rfl, fun _ => rfl⟩
        result := ⟨fun e => (by cases hp.symm.trans (h.record.result.mp e)), fun e => (by cases e)⟩
        badCount := ⟨h.record.badCount.1, fun e => by cases hp.symm.trans (h.record.badCount.2 e)⟩ },
      fun e => (by simp [hdue] at e), fun e => absurd e hlive, h.outstanding⟩,
      ⟨rfl, rfl, rfl, rfl, fun e => (by cases e), fun e => (by cases hp.symm.trans e)⟩, rfl⟩
  · exact ⟨h, .refl _, rfl⟩

theorem meter_resumeChan_self (s : State) (c : Chan) :
    (s.resumeChan c).meter c = ⟨(s.chan c).resumed s.intervalNow, (s.meter c).due, (s.meter c).read⟩ := by
  rw [resumeChan_eq, meter_modChan_self]

theorem meter_resumeChan_ne (s : State) (h : d ≠ c) : (s.resumeChan c).meter d = s.meter d := by
  rw [resumeChan_eq, meter_modChan_ne _ _ h]

theorem mounts_resumeChan (s : State) (c : Chan) : (s.resumeChan c).mounts = s.mounts := by
  rw [resumeChan_eq]; rfl

theorem Accord.bankBecomesReady (h : Accord s) (b : Bank) : Accord (s.bankBecomesReady b) := by
  unfold State.bankBecomesReady
  generalize hu : State.post (s.modBank b fun k => { k with state := .ready, warm := 0 }) _ _ = u
  have hmeter := foldl_meter (op := State.resumeChan) (R := fun m m' => ∃ ts, m' = ⟨m.chan.resumed ts, m.due, m.read⟩)
    (fun s c => ⟨_, meter_resumeChan_self s c⟩) (fun s c d => meter_resumeChan_ne s) (Bank.nodup_chans b) u
  have hmount := foldl_mounts mounts_resumeChan b.chans u
  have hum (c : Chan) : u.meter c = s.meter c := by rw [← hu]; rfl
  have hready : ((b.chans.foldl State.resumeChan u).bank b).state = .ready := by
    rw [bank_of_mounts hmount, ← hu, State.post_bank, State.bank_modBank_self]
  refine h.switched (b := b) (step := fun st => if st = .paused then .running else st) (fun c hc => ?_) (fun c _ => ?_)
    (fun c _ => ⟨fun _ => hready, fun e => ?_⟩) (fun c hc => ?_) (fun e he => ?_) ?_
  · obtain ⟨ts, hts⟩ := (hmeter c).1 (Bank.mem_chans.mpr hc)
    rw [hum] at hts
    rw [hts]
    exact (h.meter c).resumed ts
  · cases (s.chan c).state <;> rfl
  · cases hst : (s.chan c).state <;> rw [hst] at e <;> cases e
  · exact ((hmeter c).2 (mt Bank.mem_chans.mp hc)).trans (hum c)
  · rw [bank_of_mounts hmount, ← hu, State.post_bank, State.bank_modBank_ne s _ he]
  · exact Stand.trans (t := u) (by rw [← hu]; exact .of_eq rfl rfl) (stand_of_mounts hmount)

theorem Accord.warmExpiry (h : Accord s) (b : Bank) : Accord (s.warmExpiry b) := by
  unfold State.warmExpiry
  split
  · exact h.bankBecomesReady b
  · exact h

/-- A bank whose channels neither count nor resume is given another record. -/
theorem Accord.setBank {f : BankRec → BankRec} (h : Accord s) (hoff : (s.bank b).state ≠ .ready)
    (hf : (f (s.bank b)).state ≠ .ready) : Accord (s.modBank b f) := by
  refine h.switched (b := b) (step := id) (fun c _ => ⟨h.meter c, .refl _, rfl⟩) (fun _ _ => rfl)
    (fun c hc => ⟨fun e => ?_, fun _ => ?_⟩) (fun _ _ => rfl) (fun e he => State.bank_modBank_ne s _ he) (.of_eq rfl rfl)
  · exact absurd (hc ▸ (h.lit c).1 e) hoff
  · rwa [State.bank_modBank_self]

theorem Accord.bankOn (h : Accord s) (b : Bank) : Accord (s.bankOn b) := by
  by_cases hs : (s.bank b).state = .off
  · by_cases hw : s.item b.warmItem = 0
    · rw [bankOn_of_cold hs hw]
      exact h.bankBecomesReady b
    · rw [bankOn_of_warm hs hw]
      exact h.setBank (by rw [hs]; decide) (by simp)
  · rw [bankOn_of_on hs]
    exact h

theorem Accord.decrement (h : Accord s) (m : Timer) : Accord (s.decrement m) := by
  cases m with
  | warm b =>
    by_cases hs : (s.bank b).state = .warming ∧ 1 < (s.bank b).warm
    · rw [decrement_warm_of_counting hs.1 hs.2]
      exact h.setBank (by rw [hs.1]; decide) (by simp [hs.1])
    · rw [decrement_warm_of_not hs]
      exact h
  | drawer d =>
    rw [State.decrement]
    split
    · exact h.of_bench (bench_modDrawer ..)
    · exact h
  | overdue i => exact Accord.of_bench (s := s) rfl h

/-- What is held of a channel that has paused, if it was RUNNING (R116). -/
def Meter.paused (m : Meter) : Meter := if m.chan.state = .running then m.left .paused m.chan.result else m

theorem Meter.Ok.paused (h : m.Ok) : m.paused.Ok ∧ Channel.SameRun m.chan m.paused.chan
    ∧ m.paused.chan.state = if m.chan.state = .running then .paused else m.chan.state := by
  unfold Meter.paused
  split
  next hrun =>
    have hact : m.chan.state.isActive = true := by rw [hrun]; rfl
    have hres : m.chan.result.isSome = true ↔ ChanState.paused = .stopped := by
      rw [h.record.result, hrun]
      exact ⟨fun e => (by cases e), fun e => (by cases e)⟩
    exact ⟨h.left (n := m.chan.badCount) hact ⟨by decide, by decide⟩ hres
      ⟨h.record.badCount.1, fun e => (by cases hrun.symm.trans (h.record.badCount.2 e))⟩, .left hact (by decide), rfl⟩
  · exact ⟨h, .refl _, rfl⟩

theorem meter_pauseChan_self (s : State) (c : Chan) : (s.pauseChan c).meter c = (s.meter c).paused := by
  unfold State.pauseChan Meter.paused
  by_cases hr : (s.chan c).state = .running
  · rw [if_pos (by simpa using hr), meter_chan, if_pos hr, withdraw_modChan, meter_leaving_self]; rfl
  · rw [if_neg (by simpa using hr), meter_chan, if_neg hr]

theorem meter_pauseChan_ne (s : State) (h : d ≠ c) : (s.pauseChan c).meter d = s.meter d := by
  unfold State.pauseChan
  split
  · rw [withdraw_modChan, meter_leaving_ne _ _ h]
  · rfl

theorem mounts_pauseChan (s : State) (c : Chan) : (s.pauseChan c).mounts = s.mounts := by
  unfold State.pauseChan
  split <;> rfl

theorem Accord.bankOff (h : Accord s) (b : Bank) : Accord (s.bankOff b) := by
  unfold State.bankOff
  generalize hu : s.modBank b (fun k => { k with state := .off, warm := 0 }) = u
  have hmeter := foldl_meter (op := State.pauseChan) (R := fun m m' => m' = m.paused) meter_pauseChan_self
    (fun s c d => meter_pauseChan_ne s) (Bank.nodup_chans b) u
  have hmount := foldl_mounts mounts_pauseChan b.chans u
  have hum (c : Chan) : u.meter c = s.meter c := by rw [← hu]; rfl
  have hoff : ((b.chans.foldl State.pauseChan u).bank b).state = .off := by
    rw [bank_of_mounts hmount, ← hu, State.bank_modBank_self]
  refine h.switched (b := b) (step := fun st => if st = .running then .paused else st) (fun c hc => ?_) (fun c _ => ?_)
    (fun c _ => ⟨fun e => ?_, fun _ => by rw [hoff]; decide⟩) (fun c hc => ?_) (fun e he => ?_) ?_
  · rw [(hmeter c).1 (Bank.mem_chans.mpr hc), hum]
    exact (h.meter c).paused
  · cases (s.chan c).state <;> rfl
  · cases hst : (s.chan c).state <;> rw [hst] at e <;> cases e
  · exact ((hmeter c).2 (mt Bank.mem_chans.mp hc)).trans (hum c)
  · rw [bank_of_mounts hmount, ← hu, State.bank_modBank_ne s _ he]
  · exact Stand.trans (t := u) (by rw [← hu]; exact .of_eq rfl rfl) (stand_of_mounts hmount)

end

end Sys2Proof.Machine
end

section
/-! START_BACK, START_FACE and FINISH_START, and what loads, clears and breaks off the bed and the finisher position, keep
the light invariants (R76, R81, R85, R88 to R90, R104, R118, R119, R156 to R161). -/

namespace Sys2Proof.Machine

section
variable {s t u : State} {c d : Chan} {i : Slot} {o : Option Slot} {need : Int} {limit ts : Nat} {run : List Chan}
  {needs : Slot → Int} {limits : Slot → Nat}

/-! ### Channels with new records -/

theorem chanActive_of_idle (h : (s.chan c).state = .idle) : s.chanActive c = false := by
  rw [State.chanActive, h]; rfl

/-- Channels of whole runs, not under way, are given new records, and go together as those name their partners. -/
theorem LightOk.renewed {P : Chan → Prop} (h : LightOk s)
    (hclosed : ∀ c d, (s.chan c).partner = some d → (P c ↔ P d)) (hquiet : ∀ c, P c → s.chanActive c = false)
    (hmine : ∀ c, P c → ChannelOk (t.chan c) ∧ (t.chan c).readOutstanding = false)
    (hpair : ∀ c d, P c → (t.chan c).partner = some d → t.GoTogether c d)
    (hrest : ∀ c, ¬ P c → t.chan c = s.chan c) (hl : t.link = s.link) : LightOk t := by
  have hok := ((lightOk_iff s).mp h).1
  refine (lightOk_iff t).mpr ⟨fun c => ?_, fun c d hd => ?_⟩
  · by_cases hc : P c
    · have hm : t.meter c = ⟨t.chan c, (s.meter c).due, (s.meter c).read⟩ := by simp only [State.meter, hl]
      have hrun : (s.meter c).chan.state ≠ .running := fun e => by
        have ha := hquiet c hc
        rw [State.chanActive, ← meter_chan, e] at ha
        cases ha
      obtain ⟨hdue, hlive⟩ := (hok c).quiet hrun
      rw [hm]
      exact .of_quiet (hmine c hc).1 (hmine c hc).2 hdue hlive
    · rw [meter_congr (hrest c hc) hl]
      exact hok c
  · by_cases hc : P c
    · exact hpair c d hc hd
    · have hd' : (s.chan c).partner = some d := hrest c hc ▸ hd
      have ht := h.pairs c d hd'
      unfold State.GoTogether
      rwa [hrest c hc, hrest d (mt (hclosed c d hd').mpr hc)]

/-! ### Starting (R104) -/

/-- The phase or the run that a channel counts in is under way. -/
def State.phaseRuns (s : State) : Chan → Prop
  | .backA => s.frame.state = .backRun
  | .backB => s.frame.state = .backRun
  | .faceA => s.frame.state = .faceRun
  | .faceB => s.frame.state = .faceRun
  | .detack => s.finisher.state = .running
  | .post => s.finisher.state = .running

/-- The plate on a channel's lane or in the finisher position. -/
def State.plateAt (s : State) (c : Chan) : Option Slot :=
  match c.lane with
  | some l => (s.frame.lane l).slot
  | none => s.finisher.slot

/-- A channel may be started for a plate. -/
structure State.CanStart (s : State) (c : Chan) (i : Slot) : Prop where
  idle : (s.chan c).state = .idle
  lit : (s.bank c.bank).state = .ready
  phase : s.phaseRuns c
  plate : s.plateAt c = some i

theorem State.CanStart.congr (h : s.CanStart c i) (hm : t.mounts = s.mounts) (hc : t.chan c = s.chan c) :
    t.CanStart c i := by
  have hf : t.frame = s.frame := congrArg Prod.fst hm
  have hp : t.finisher = s.finisher := congrArg (fun m => m.2.2) hm
  refine ⟨hc ▸ h.idle, bank_of_mounts hm c.bank ▸ h.lit, ?_, ?_⟩
  · have hphase := h.phase
    cases c <;> simpa only [State.phaseRuns, hf, hp] using hphase
  · rw [← h.plate]
    simp only [State.plateAt, hf, hp]

theorem Unchecked.phaseRuns (h : Unchecked s) (ha : s.chanActive c = true) : s.phaseRuns c := by
  cases c with
  | backA => exact h.bed.back (by rw [ha, Bool.true_or])
  | backB => exact h.bed.back (by rw [ha, Bool.or_true])
  | faceA => exact h.bed.face (by rw [ha, Bool.true_or])
  | faceB => exact h.bed.face (by rw [ha, Bool.or_true])
  | detack => exact h.position.run (by rw [ha, Bool.true_or])
  | post => exact h.position.run (by rw [ha, Bool.or_true])

/-- Channels have been started, and no other channel, bank or block has changed. -/
structure State.Starts (s : State) (run : List Chan) (t : State) : Prop where
  unchecked : Unchecked t
  mounts : t.mounts = s.mounts
  rest : ∀ c ∉ run, t.chan c = s.chan c

theorem State.Starts.refl (h : Unchecked s) (run : List Chan) : s.Starts run s := ⟨h, rfl, fun _ _ => rfl⟩

theorem State.Starts.trans {run' : List Chan} (h : s.Starts run t) (k : t.Starts run' u) : s.Starts (run ++ run') u :=
  ⟨k.unchecked, k.mounts.trans h.mounts, fun c hc => by
    rw [List.mem_append, not_or] at hc
    exact (k.rest c hc.2).trans (h.rest c hc.1)⟩

theorem startOutcome_channelOk (i : Slot) (partner : Option Chan) (need : Int) (limit ts : Nat) :
    ChannelOk (startOutcome i partner need limit ts) ∧ (startOutcome i partner need limit ts).readOutstanding = false := by
  unfold startOutcome
  split
  · exact ⟨⟨nofun, fun _ => ⟨rfl, rfl⟩, fun _ => rfl, ⟨fun _ => rfl, fun _ => rfl⟩, ⟨nofun, nofun⟩, Nat.zero_le _,
      Nat.zero_le _, nofun⟩, rfl⟩
  · exact ⟨⟨nofun, fun _ => ⟨rfl, rfl⟩, nofun, ⟨nofun, nofun⟩, ⟨fun _ => rfl, fun _ => rfl⟩, Nat.zero_le _,
      Nat.zero_le _, nofun⟩, rfl⟩

/-- Channels that count for one plate, alone or as the pair of a wide one, are given the records of a start. -/
theorem Unchecked.started (h : Unchecked s) (hrun : ∀ c ∈ run, s.CanStart c i)
    (hmine : ∀ c ∈ run, ∃ q, t.chan c = startOutcome i q need limit ts
      ∧ (c.lane.isSome = true → q.isSome = s.frame.isWide)
      ∧ ∀ d, q = some d → Chan.partnerOf c = some d ∧ t.chan d = startOutcome i (some c) need limit ts)
    (hrest : ∀ c ∉ run, t.chan c = s.chan c) (hl : t.link = s.link) (hm : t.mounts = s.mounts) : s.Starts run t := by
  have hf : t.frame = s.frame := congrArg Prod.fst hm
  have hp : t.finisher = s.finisher := congrArg (fun m => m.2.2) hm
  have hidle (c : Chan) (hc : c ∈ run) : s.chan c = Channel.idle := (h.light.records c).idle (hrun c hc).idle
  have hphase (c : Chan) (ha : t.chanActive c = true) : s.phaseRuns c := by
    by_cases hc : c ∈ run
    · exact (hrun c hc).phase
    · exact h.phaseRuns (chanActive_congr (hrest c hc) ▸ ha)
  have hout (c : Chan) (hc : ¬ s.phaseRuns c) : t.chan c = s.chan c := hrest c fun hr => hc (hrun c hr).phase
  have hplace (c : Chan) (hx : c ∈ run) : (t.chan c).slot = s.plateAt c := by
    obtain ⟨q, hq, -⟩ := hmine c hx
    rw [hq, startOutcome_slot, (hrun c hx).plate]
  refine ⟨⟨?_, ?_, ?_, fun c => ?_⟩, hm, hrest⟩
  · refine h.light.renewed (P := (· ∈ run)) (fun c d hd => ?_)
      (fun c hc => chanActive_of_idle (hrun c hc).idle) (fun c hc => ?_) (fun c d hc hd => ?_) hrest hl
    · have hback := (h.light.pairs c d hd).2.1
      refine ⟨fun hc => ?_, fun hc => ?_⟩
      · rw [hidle c hc] at hd
        cases hd
      · rw [hidle d hc] at hback
        cases hback
    · obtain ⟨q, hq, -⟩ := hmine c hc
      rw [hq]
      exact startOutcome_channelOk ..
    · obtain ⟨q, hq, -, hpair⟩ := hmine c hc
      rw [hq, startOutcome_partner] at hd
      obtain ⟨hof, hmate⟩ := hpair d hd
      unfold State.GoTogether
      rw [hq, hmate]
      refine ⟨hof, startOutcome_partner, ?_⟩
      unfold startOutcome
      split <;> exact ⟨rfl, rfl, rfl, rfl⟩
  · refine ⟨fun hx => ?_, fun hx hy => ?_, fun hx => ?_, fun hx => ?_, fun c l hc hx => ?_⟩
    · rw [hf] at hx
      have hno : s.frame.state ≠ .backRun := by rcases hx with hx | hx <;> simp [hx]
      rw [hout .backA hno, hout .backB hno]
      exact h.bed.backIdle hx
    · rw [hf] at hx hy
      rw [hout .faceA hx, hout .faceB hx]
      exact h.bed.faceIdle hx hy
    · rw [hf]
      exact (Bool.or_eq_true_iff.mp hx).elim (hphase .backA) (hphase .backB)
    · rw [hf]
      exact (Bool.or_eq_true_iff.mp hx).elim (hphase .faceA) (hphase .faceB)
    · rw [hf]
      by_cases hr : c ∈ run
      · obtain ⟨q, hq, hwide, -⟩ := hmine c hr
        refine ⟨(hplace c hr).trans (by rw [State.plateAt, hc]), ?_⟩
        rw [hq, startOutcome_partner]
        exact hwide (by rw [hc]; rfl)
      · rw [hrest c hr] at hx ⊢
        exact h.bed.lanes c l hc hx
  · refine ⟨fun hx => ?_, fun hx => ?_, fun c hc hx => ?_⟩
    · rw [hp] at hx
      have hno : s.finisher.state ≠ .running := by rcases hx with hx | hx <;> simp [hx]
      rw [hout .detack hno, hout .post hno]
      exact h.position.idle hx
    · rw [hp]
      exact (Bool.or_eq_true_iff.mp hx).elim (hphase .detack) (hphase .post)
    · rw [hp]
      by_cases hr : c ∈ run
      · exact (hplace c hr).trans (by rw [State.plateAt, hc])
      · rw [hrest c hr] at hx ⊢
        exact h.position.positions c hc hx
  · rw [bank_of_mounts hm]
    by_cases hr : c ∈ run
    · obtain ⟨q, hq, -⟩ := hmine c hr
      refine ⟨fun _ => (hrun c hr).lit, fun hx => ?_⟩
      rw [hq] at hx
      unfold startOutcome at hx
      split at hx <;> cases hx
    · rw [hrest c hr]
      exact h.lit c

theorem State.Starts.of_bench (h : s.Starts run t) (hb : u.bench = t.bench) : s.Starts run u where
  unchecked := h.unchecked.of_bench hb
  mounts := (congrArg State.mounts hb :).trans h.mounts
  rest c hc := (congrArg (State.chan · c) hb :).trans (h.rest c hc)

theorem Unchecked.startSingle (h : Unchecked s) (hc : s.CanStart c i)
    (hw : c.lane.isSome = true → s.frame.isWide = false) : s.Starts [c] (s.startSingle c i need limit) := by
  rw [startSingle_eq (h.light.of_idle hc.idle).2]
  refine State.Starts.of_bench (t := s.modChan c fun _ => startOutcome i none need limit s.intervalNow)
    (h.started (i := i) (need := need) (limit := limit) (ts := s.intervalNow) ?_ (fun e he => ?_) (fun e he => ?_) rfl rfl)
    ((bench_postAll ..).trans (bench_modChan (bench_modPlateOpt ..) ..))
  · simpa using hc
  · obtain rfl := List.mem_singleton.mp he
    exact ⟨none, State.chan_modChan_self .., fun hl => (hw hl).symm, nofun⟩
  · exact State.chan_modChan_ne _ _ (by simpa using he)

theorem Unchecked.startPair (h : Unchecked s) (hc : s.CanStart c i) (hd : s.CanStart d i) (hcd : c.index < d.index)
    (hof : Chan.partnerOf c = some d) (hback : Chan.partnerOf d = some c) (hw : s.frame.isWide = true) :
    s.Starts [c, d] (s.startPair c d i need limit) := by
  have hne : d ≠ c := partnerOf_ne hof
  rw [startPair_eq hcd (h.light.of_idle hc.idle).2 (h.light.of_idle hd.idle).2]
  generalize hmarked : (s.modPlate? (metPlate i need) fun p => p.addDose c.phase 0) = v
  have hv : v.bench = s.bench := hmarked ▸ bench_modPlateOpt ..
  refine State.Starts.of_bench (t := (s.modChan c fun _ => startOutcome i (some d) need limit s.intervalNow).modChan d
      fun _ => startOutcome i (some c) need limit s.intervalNow)
    (h.started (i := i) (need := need) (limit := limit) (ts := s.intervalNow) ?_ (fun e he => ?_) (fun e he => ?_) rfl rfl)
    ((bench_postAll ..).trans (bench_modChan (bench_modChan hv ..) ..))
  · simpa using ⟨hc, hd⟩
  · rcases List.mem_pair.mp he with rfl | rfl
    · refine ⟨some d, ?_, fun _ => hw.symm, fun x hx => ?_⟩
      · rw [State.chan_modChan_ne _ _ hne.symm, State.chan_modChan_self]
      · cases hx
        exact ⟨hof, State.chan_modChan_self ..⟩
    · refine ⟨some c, State.chan_modChan_self .., fun _ => hw.symm, fun x hx => ?_⟩
      cases hx
      exact ⟨hback, by rw [State.chan_modChan_ne _ _ hne.symm, State.chan_modChan_self]⟩
  · rw [List.mem_pair, not_or] at he
    rw [State.chan_modChan_ne _ _ he.2, State.chan_modChan_ne _ _ he.1]

theorem Unchecked.startFor (h : Unchecked s) (ho : ∀ i, o = some i → s.CanStart c i)
    (hw : c.lane.isSome = true → s.frame.isWide = false) : s.Starts [c] (s.startFor c o needs limits) := by
  cases o with
  | none => exact .refl h [c]
  | some i => exact h.startSingle (ho i rfl) hw

/-- Two channels that count alone are started in turn. -/
theorem State.Starts.startFor (h : s.Starts run t) (hc : c ∉ run) (ho : ∀ i, o = some i → s.CanStart c i)
    (hw : c.lane.isSome = true → s.frame.isWide = false) : s.Starts (run ++ [c]) (t.startFor c o needs limits) :=
  h.trans (h.unchecked.startFor (fun i hi => (ho i hi).congr h.mounts (h.rest c hc)) fun hl => by
    rw [show t.frame = s.frame from congrArg Prod.fst h.mounts]
    exact hw hl)

/-! ### START_BACK, START_FACE and FINISH_START -/

theorem FrameUnit.isWide_iff {u : FrameUnit} :
    u.isWide = true ↔ u.laneA.slot.isSome = true ∧ u.laneB.slot = u.laneA.slot := by
  rw [FrameUnit.isWide, Bool.and_eq_true, beq_iff_eq, eq_comm (a := u.laneA.slot)]

theorem Lane.unfailed_eq_some {lane : Lane} (h : lane.unfailed = some i) : lane.slot = some i := by
  unfold Lane.unfailed at h
  cases lane.failure <;> simp_all

theorem Unchecked.startBackChannels (h : Unchecked s) (hf : s.frame.state = .backRun) (hb : (s.bank .back).state = .ready)
    (hA : (s.chan .backA).state = .idle) (hB : (s.chan .backB).state = .idle) :
    s.Starts [.backA, .backB] s.startBackChannels := by
  unfold State.startBackChannels
  cases hw : s.frame.isWide with
  | true =>
    obtain ⟨hsome, hsame⟩ := FrameUnit.isWide_iff.mp hw
    obtain ⟨i, hi⟩ := Option.isSome_iff_exists.mp hsome
    simp only [if_true, hi]
    exact h.startPair ⟨hA, hb, hf, hi⟩ ⟨hB, hb, hf, hsame.trans hi⟩ (by decide) rfl rfl hw
  | false =>
    rw [if_neg Bool.false_ne_true, startBackLane_eq, startBackLane_eq]
    exact (h.startFor (fun i hi => ⟨hA, hb, hf, hi⟩) fun _ => hw).startFor (by decide) (fun i hi => ⟨hB, hb, hf, hi⟩)
      fun _ => hw

theorem Unchecked.startFaceChannels (h : Unchecked s) (hf : s.frame.state = .faceRun) (hb : (s.bank .face).state = .ready)
    (hA : (s.chan .faceA).state = .idle) (hB : (s.chan .faceB).state = .idle) :
    s.Starts [.faceA, .faceB] s.startFaceChannels := by
  unfold State.startFaceChannels
  cases hw : s.frame.isWide with
  | true =>
    obtain ⟨hsome, hsame⟩ := FrameUnit.isWide_iff.mp hw
    obtain ⟨i, hi⟩ := Option.isSome_iff_exists.mp hsome
    simp only [if_true, hi]
    split
    · exact .refl h _
    · exact h.startPair ⟨hA, hb, hf, hi⟩ ⟨hB, hb, hf, hsame.trans hi⟩ (by decide) rfl rfl hw
  | false =>
    rw [if_neg Bool.false_ne_true, startFaceLane_eq, startFaceLane_eq]
    exact (h.startFor (fun i hi => ⟨hA, hb, hf, Lane.unfailed_eq_some hi⟩) fun _ => hw).startFor (by decide)
      (fun i hi => ⟨hB, hb, hf, Lane.unfailed_eq_some hi⟩) fun _ => hw

theorem Unchecked.startFinishing (h : Unchecked s) (hf : s.finisher.state = .running)
    (hD : (s.bank .detack).state = .ready) (hP : (s.bank .post).state = .ready)
    (hd : (s.chan .detack).state = .idle) (hp : (s.chan .post).state = .idle) :
    s.Starts [.detack, .post] s.startFinishing := by
  unfold State.startFinishing
  split
  next i hi =>
    exact (h.startFor (o := some i) (needs := s.detackNeed) (limits := fun i => (s.plateType i).detackMaxS * 1000)
        (fun j hj => ⟨hd, hD, hf, hi.trans hj⟩) nofun).startFor (o := some i) (needs := s.postNeed)
      (limits := fun i => (s.plateType i).postMaxS * 1000) (by decide) (fun j hj => ⟨hp, hP, hf, hi.trans hj⟩) nofun
  next => exact .refl h _

theorem State.Starts.chanActive_eq (h : s.Starts run t) (hc : c ∉ run) : t.chanActive c = s.chanActive c :=
  chanActive_congr (h.rest c hc)

/-- The channels of a phase of the frame have been started: its owning block sees whether it is over. -/
theorem State.Starts.checkFramePhase (h : s.Starts run t) (hs : PositionSettled s) (hd : Chan.detack ∉ run)
    (hp : Chan.post ∉ run) : Accord t.checkFramePhase := by
  refine h.unchecked.checked (c := .backA) nofun fun _ => ?_
  intro hx
  rw [h.chanActive_eq hd, h.chanActive_eq hp]
  exact hs ((stand_of_mounts h.mounts).finisher ▸ hx)

theorem State.Starts.checkFinishPhase (h : s.Starts run t) (hs : BedSettled s)
    (hr : ∀ c, c.lane.isSome = true → c ∉ run) : Accord t.checkFinishPhase :=
  h.unchecked.checked (c := .detack) (fun _ => hs.of_runs (stand_of_mounts h.mounts) fun c hc ha => by
    rwa [h.chanActive_eq (hr c hc)]) nofun

theorem Accord.startBack (h : Accord s) : Accord (startBackEffect s).1 := by
  by_cases hs : s.frame.state = .loaded
  · by_cases hb : (s.bank .back).state = .ready
    · have hu := h.unchecked
      obtain ⟨hA, hB⟩ := hu.bed.backIdle (.inr hs)
      have ht : Unchecked (s.setFrameState .backRun) :=
        ⟨h.light.setFrameState _, ⟨nofun, fun _ _ => hu.bed.faceIdle (by simp [hs]) (by simp [hs]), fun _ => rfl,
          fun hx => (by cases hs.symm.trans (hu.bed.face hx)), hu.bed.lanes⟩,
          ⟨hu.position.idle, hu.position.run, hu.position.positions⟩, hu.lit⟩
      rw [startBackEffect_of_ready hs hb]
      exact (ht.startBackChannels rfl hb hA hB).checkFramePhase h.settled.2 (by decide) (by decide)
    · rw [startBackEffect, if_neg (by simp [hs]), if_pos (by simpa using hb)]
      exact h
  · rw [startBackEffect, if_pos (by simpa using hs)]
    exact h

theorem Accord.startFace (h : Accord s) : Accord (startFaceEffect s).1 := by
  by_cases hs : s.frame.state = .backEnd
  · by_cases hb : (s.bank .face).state = .ready
    · have hu := h.unchecked
      obtain ⟨hA, hB⟩ := hu.bed.faceIdle (by simp [hs]) (by simp [hs])
      have ht : Unchecked (s.setFrameState .faceRun) :=
        ⟨h.light.setFrameState _, ⟨nofun, fun hx => absurd rfl hx, fun hx => (by cases hs.symm.trans (hu.bed.back hx)),
          fun _ => rfl, hu.bed.lanes⟩, ⟨hu.position.idle, hu.position.run, hu.position.positions⟩, hu.lit⟩
      rw [startFaceEffect_of_ready hs hb]
      exact (ht.startFaceChannels rfl hb hA hB).checkFramePhase h.settled.2 (by decide) (by decide)
    · rw [startFaceEffect, if_neg (by simp [hs]), if_pos (by simpa using hb)]
      exact h
  · rw [startFaceEffect, if_pos (by simpa using hs)]
    exact h

theorem Accord.finishStart (h : Accord s) : Accord (finishStartEffect s).1 := by
  unfold finishStartEffect
  split
  · exact h
  next hs =>
    split
    · exact h
    next hb =>
      have hs : s.finisher.state = .loaded := by simpa using hs
      obtain ⟨hD, hP⟩ : (s.bank .detack).state = .ready ∧ (s.bank .post).state = .ready := by simpa using hb
      have hu := h.unchecked
      obtain ⟨hd, hp⟩ := hu.position.idle (.inr hs)
      have ht : Unchecked { s with finisher := { s.finisher with state := .running } } :=
        ⟨h.light.setFinisher _, ⟨hu.bed.backIdle, hu.bed.faceIdle, hu.bed.back, hu.bed.face, hu.bed.lanes⟩,
          ⟨nofun, fun _ => rfl, hu.position.positions⟩, hu.lit⟩
      exact (ht.startFinishing rfl hD hP hd hp).checkFinishPhase ⟨h.settled.1.back, h.settled.1.face⟩
        fun c hc hr => (by rcases List.mem_pair.mp hr with rfl | rfl <;> cases hc)

/-! ### The bed is loaded and cleared (R76, R88 to R90) -/

/-- With every channel of the frame IDLE, the bed may be EMPTY or LOADED. -/
theorem Accord.of_idle_bed (hl : LightOk s) (hp : PositionHeld s) (hp' : PositionSettled s) (hlit : LitOk s)
    (hidle : ∀ c, c.lane.isSome = true → (s.chan c).state = .idle) (hf : s.frame.state = .empty ∨ s.frame.state = .loaded) :
    Accord s := by
  have hquiet (c d : Chan) (hc : c.lane.isSome = true) (hd : d.lane.isSome = true) :
      ¬ (s.chanActive c || s.chanActive d) = true := by
    rw [chanActive_of_idle (hidle c hc), chanActive_of_idle (hidle d hd)]
    decide
  refine Unchecked.accord ⟨hl, ⟨fun _ => ⟨hidle .backA rfl, hidle .backB rfl⟩,
    fun _ _ => ⟨hidle .faceA rfl, hidle .faceB rfl⟩, fun hx => absurd hx (hquiet _ _ rfl rfl),
    fun hx => absurd hx (hquiet _ _ rfl rfl), fun c l hc hx => absurd (hidle c (by rw [hc]; rfl)) hx⟩, hp, hlit⟩
    ⟨fun hx => ?_, fun hx => ?_⟩ hp'
  all_goals rcases hf with hf | hf <;> cases hf.symm.trans hx

/-- A bed without a phase is given another load, or none. -/
theorem Accord.setFrame {v : FrameUnit} (h : Accord s) (hs : s.frame.state = .empty ∨ s.frame.state = .loaded)
    (hv : v.state = .empty ∨ v.state = .loaded) : Accord { s with frame := v } := by
  obtain ⟨hbA, hbB⟩ := h.unchecked.bed.backIdle hs
  obtain ⟨hfA, hfB⟩ := h.unchecked.bed.faceIdle (by rcases hs with hs | hs <;> simp [hs])
    (by rcases hs with hs | hs <;> simp [hs])
  have hp := h.unchecked.position
  refine .of_idle_bed (h.light.setFrame v) ⟨hp.idle, hp.run, hp.positions⟩ h.settled.2 h.lit (fun c hc => ?_) hv
  cases c with
  | backA => exact hbA
  | backB => exact hbB
  | faceA => exact hfA
  | faceB => exact hfB
  | detack | post => cases hc

theorem clearBed_chan (s : State) (c : Chan) : s.clearBed.chan c = if c.lane.isSome then Channel.idle else s.chan c := by
  cases c <;> simp [State.clearBed, State.idleChan, State.modChan, State.chan, Chan.index, Chan.lane]

theorem clearFinisher_chan (s : State) (c : Chan) :
    s.clearFinisher.chan c = if c.lane.isSome then s.chan c else Channel.idle := by
  cases c <;> simp [State.clearFinisher, State.idleChan, State.modChan, State.chan, Chan.index, Chan.lane]

theorem channelOk_idle : ChannelOk Channel.idle := lightOk_reset.records .backA

/-- The channels of one block, none under way, return to IDLE. -/
theorem LightOk.idled {k : Bool} (h : LightOk s) (hquiet : ∀ c, c.lane.isSome = k → s.chanActive c = false)
    (hmine : ∀ c, c.lane.isSome = k → t.chan c = Channel.idle) (hrest : ∀ c, c.lane.isSome ≠ k → t.chan c = s.chan c)
    (hl : t.link = s.link) : LightOk t := by
  refine h.renewed (P := fun c => c.lane.isSome = k) (fun c d hd => ?_) hquiet (fun c hc => ?_) (fun c d hc hd => ?_)
    hrest hl
  · rw [(partnerOf_unit (h.pairs c d hd).1).1]
  · rw [hmine c hc]
    exact ⟨channelOk_idle, rfl⟩
  · rw [hmine c hc] at hd
    cases hd

theorem LitOk.idled {k : Bool} (h : LitOk s) (hmine : ∀ c, c.lane.isSome = k → t.chan c = Channel.idle)
    (hrest : ∀ c, c.lane.isSome ≠ k → t.chan c = s.chan c) (hb : t.banks = s.banks) : LitOk t := by
  intro c
  by_cases hc : c.lane.isSome = k
  · rw [hmine c hc]
    exact ⟨nofun, nofun⟩
  · rw [hrest c hc, State.bank, hb]
    exact h c

theorem Unchecked.clearBed (h : Unchecked s) (hp : PositionSettled s)
    (hquiet : ∀ c, c.lane.isSome = true → s.chanActive c = false) : Accord s.clearBed := by
  have hmine (c : Chan) (hc : c.lane.isSome = true) : s.clearBed.chan c = Channel.idle := by
    rw [clearBed_chan, if_pos hc]
  have hrest (c : Chan) (hc : c.lane.isSome ≠ true) : s.clearBed.chan c = s.chan c := by rw [clearBed_chan, if_neg hc]
  have hst : Stand { s with frame := {} } s.clearBed := .of_eq rfl rfl
  have hpos : PositionHeld { s with frame := {} } := ⟨h.position.idle, h.position.run, h.position.positions⟩
  have hpos' : PositionSettled { s with frame := {} } := hp
  refine .of_idle_bed (h.light.idled hquiet hmine hrest rfl)
    (hpos.of_runs hst (fun c hc => .of_eq (hrest c (by simp [hc]))) fun c hc ha => ?_)
    (hpos'.of_runs hst fun c hc ha => ?_) (h.lit.idled hmine hrest rfl) (fun c hc => ?_) (.inl rfl)
  · exact chanActive_congr (hrest c (by simp [hc])) ▸ ha
  · exact (chanActive_congr (hrest c (by simp [hc]))).trans ha
  · rw [hmine c hc]; rfl

/-! ### The finisher position is loaded and cleared (R156, R159 to R161) -/

/-- With both finishing channels IDLE, the position may be EMPTY or LOADED. -/
theorem Accord.of_idle_position (hl : LightOk s) (hb : BedHeld s) (hb' : BedSettled s) (hlit : LitOk s)
    (hidle : ∀ c, c.lane = none → (s.chan c).state = .idle)
    (hf : s.finisher.state = .empty ∨ s.finisher.state = .loaded) : Accord s := by
  refine Unchecked.accord ⟨hl, hb, ⟨fun _ => ⟨hidle .detack rfl, hidle .post rfl⟩, fun hx => ?_,
    fun c hc hx => absurd (hidle c hc) hx⟩, hlit⟩ hb' fun hx => ?_
  · rw [chanActive_of_idle (hidle .detack rfl), chanActive_of_idle (hidle .post rfl)] at hx
    cases hx
  · rcases hf with hf | hf <;> cases hf.symm.trans hx

theorem Accord.setFinisher {v : Finisher} (h : Accord s) (hs : s.finisher.state = .empty ∨ s.finisher.state = .loaded)
    (hv : v.state = .empty ∨ v.state = .loaded) : Accord { s with finisher := v } := by
  obtain ⟨hD, hP⟩ := h.unchecked.position.idle hs
  have hb := h.unchecked.bed
  refine .of_idle_position (h.light.setFinisher v) ⟨hb.backIdle, hb.faceIdle, hb.back, hb.face, hb.lanes⟩
    ⟨h.settled.1.back, h.settled.1.face⟩ h.lit (fun c hc => ?_) hv
  cases c with
  | detack => exact hD
  | post => exact hP
  | backA | backB | faceA | faceB => cases hc

theorem Unchecked.clearFinisher (h : Unchecked s) (hb : BedSettled s)
    (hquiet : ∀ c, c.lane.isSome = false → s.chanActive c = false) : Accord s.clearFinisher := by
  have hmine (c : Chan) (hc : c.lane.isSome = false) : s.clearFinisher.chan c = Channel.idle := by
    rw [clearFinisher_chan, if_neg (by simp [hc])]
  have hrest (c : Chan) (hc : c.lane.isSome ≠ false) : s.clearFinisher.chan c = s.chan c := by
    rw [clearFinisher_chan, if_pos (eq_true_of_ne_false hc)]
  have hst : Stand { s with finisher := {} } s.clearFinisher := .of_eq rfl rfl
  have hbed : BedHeld { s with finisher := {} } :=
    ⟨h.bed.backIdle, h.bed.faceIdle, h.bed.back, h.bed.face, h.bed.lanes⟩
  have hbed' : BedSettled { s with finisher := {} } := ⟨hb.back, hb.face⟩
  refine .of_idle_position (h.light.idled hquiet hmine hrest rfl)
    (hbed.of_runs hst (fun c hc => .of_eq (hrest c (by simp [hc]))) fun c hc ha => ?_)
    (hbed'.of_runs hst fun c hc ha => ?_) (h.lit.idled hmine hrest rfl) (fun c hc => ?_) (.inl rfl)
  · exact chanActive_congr (hrest c (by simp [hc])) ▸ ha
  · exact (chanActive_congr (hrest c (by simp [hc]))).trans ha
  · rw [hmine c (by rw [hc]; rfl)]; rfl

/-! ### Runs broken off (R90, R118, R161) -/

/-- Channels of one block have been broken off: none of them is under way, and the other block's are as they were. -/
structure State.Quieted (s : State) (k : Bool) (run : List Chan) (t : State) : Prop where
  unchecked : Unchecked t
  quiet : ∀ c ∈ run, t.chanActive c = false
  mono : ∀ c, t.chanActive c = true → s.chanActive c = true
  rest : ∀ c, c.lane.isSome ≠ k → t.chan c = s.chan c
  stand : Stand s t

theorem Unchecked.abortRun (h : Unchecked s) (c : Chan) : s.Quieted c.lane.isSome [c] (s.abortRun c) := by
  cases ha : s.chanActive c with
  | false =>
    rw [abortRun_of_inactive ha]
    exact ⟨h, by simpa using ha, fun _ => id, fun _ _ => rfl, .refl s⟩
  | true =>
    have hleft := abortRun_left h.light ha
    have hout (d : Chan) (hd : d ∈ s.runOf c) : (s.abortRun c).chanActive d = false := by
      rw [State.chanActive, ← meter_chan, (hleft.mine d hd).2.2]; rfl
    refine ⟨hleft.unchecked h rfl, ?_, fun d hd => ?_, fun d hd => hleft.elsewhere h.light hd, hleft.stand⟩
    · simpa using hout c (mem_runOf.mpr (.inl rfl))
    · by_cases hr : d ∈ s.runOf c
      · rw [hout d hr] at hd
        cases hd
      · exact chanActive_congr (chan_of_meter (hleft.rest d hr)) ▸ hd

theorem Unchecked.foldl_abortRun {k : Bool} (h : Unchecked s) (hk : ∀ c ∈ run, c.lane.isSome = k) :
    s.Quieted k run (run.foldl State.abortRun s) := by
  induction run generalizing s with
  | nil => exact ⟨h, nofun, fun _ => id, fun _ _ => rfl, .refl s⟩
  | cons c run ih =>
    have hone := h.abortRun c
    rw [hk c (List.mem_cons_self ..)] at hone
    have hmany := ih hone.unchecked fun d hd => hk d (List.mem_cons_of_mem _ hd)
    rw [List.foldl_cons]
    refine ⟨hmany.unchecked, fun d hd => ?_, fun d hd => hone.mono d (hmany.mono d hd),
      fun d hd => (hmany.rest d hd).trans (hone.rest d hd), hone.stand.trans hmany.stand⟩
    rcases List.mem_cons.mp hd with rfl | hd
    · exact Bool.eq_false_iff.mpr fun e => Bool.eq_false_iff.mp (hone.quiet d (List.mem_singleton_self d)) (hmany.mono d e)
    · exact hmany.quiet d hd

theorem Accord.breakOffLoad (h : Accord s) : Accord s.breakOffLoad := by
  have hq := h.unchecked.foldl_abortRun (k := true) (run := [.backA, .backB, .faceA, .faceB]) (by decide)
  refine (hq.unchecked.clearBed (h.settled.2.of_runs hq.stand fun c hc ha => ?_) fun c hc => hq.quiet c ?_).of_bench
    (bench_clearBed (bench_foldl_holdAborted ..))
  · exact (chanActive_congr (hq.rest c (by simp [hc]))).trans ha
  · cases c with
    | backA | backB | faceA | faceB => decide
    | detack | post => cases hc

theorem Accord.breakOffFinish (h : Accord s) (i : Slot) : Accord (s.breakOffFinish i).clearFinisher := by
  have hq := h.unchecked.foldl_abortRun (k := false) (run := [.detack, .post]) (by decide)
  refine (hq.unchecked.clearFinisher (h.settled.1.of_runs hq.stand fun c hc ha => ?_) fun c hc => hq.quiet c ?_).of_bench
    (bench_clearFinisher (bench_holdAtStep ..))
  · exact (chanActive_congr (hq.rest c (by simp [hc]))).trans ha
  · cases c with
    | detack | post => decide
    | backA | backB | faceA | faceB => cases hc

end

end Sys2Proof.Machine
end

section
/-! Every step keeps the light invariants (O58): the commands one by one, most of which leave the bench alone, then the
other rows. -/

namespace Sys2Proof.Machine

section
variable {s t : State} {f : State → State × Reply}

/-! ### Commands that leave the bench alone -/

theorem bench_viaSlot {act : State → Slot → State × Reply} (h : ∀ i, (act s i).1.bench = s.bench) (b : Byte) :
    (viaSlot b act s).1.bench = s.bench := by
  unfold viaSlot
  split
  · exact h _
  · rfl

theorem bench_viaDrawer {act : State → DrawerIx → State × Reply} (h : ∀ d, (act s d).1.bench = s.bench) (b : Byte) :
    (viaDrawer b act s).1.bench = s.bench := by
  unfold viaDrawer
  split
  · exact h _
  · rfl

theorem bench_holdPlate (s : State) (i : Slot) : (holdPlate s i).1.bench = s.bench := by
  unfold holdPlate
  split
  · exact bench_leaveOwnList ..
  · split <;> rfl

theorem bench_releasePlate (s : State) (i : Slot) : (releasePlate s i).1.bench = s.bench := by
  unfold releasePlate
  split
  · exact bench_joinReleased ..
  · split <;> rfl

theorem bench_scrapPlate (s : State) (i : Slot) : (scrapPlate s i).1.bench = s.bench := by
  unfold scrapPlate
  split
  · exact bench_leaveOwnList ..
  · split <;> rfl

theorem bench_purgePlate (s : State) (i : Slot) : (purgePlate s i).1.bench = s.bench := by
  unfold purgePlate
  split
  · split <;> rfl
  · rfl

theorem bench_writeType (ix : Byte) (image : TypeImage) (s : State) : (writeTypeEffect ix image s).1.bench = s.bench := by
  unfold writeTypeEffect
  split
  · rfl
  · repeat' split
    all_goals rfl

theorem bench_readType (ix : Byte) (s : State) : (readTypeEffect ix s).1.bench = s.bench := by
  unfold readTypeEffect
  split <;> rfl

theorem bench_stageLot (lot : LotImage) (s : State) : (stageLotEffect lot s).1.bench = s.bench := by
  unfold stageLotEffect
  split
  · rfl
  split
  · rfl
  split
  · rfl
  dsimp only
  split
  · rfl
  split
  · rfl
  split
  · rfl
  split
  · rfl
  · exact bench_stage ..

theorem bench_setConfig (code : Byte) (value : Word) (s : State) : (setConfigEffect code value s).1.bench = s.bench := by
  unfold setConfigEffect
  split
  · rfl
  · exact bench_storeItem ..

theorem bench_readConfig (code : Byte) (s : State) : (readConfigEffect code s).1.bench = s.bench := by
  unfold readConfigEffect
  split <;> rfl

theorem bench_setMass (s : State) (m : Nat) : (s.setMass m).evaluateGate.bench = s.bench := bench_evaluateGate ..

theorem bench_replenish (litres : Word) (s : State) : (replenishEffect litres s).1.bench = s.bench := by
  unfold replenishEffect
  split
  · rfl
  · exact bench_setMass ..

theorem bench_washClaim (code : Byte) (s : State) : (washClaimEffect code s).1.bench = s.bench := by
  unfold washClaimEffect
  repeat' split
  all_goals rfl

theorem bench_washDone (s : State) (i : Slot) : (washDonePlate s i).1.bench = s.bench := by
  unfold washDonePlate
  split
  · rfl
  split
  · rfl
  · exact (bench_evaluateGate _).trans ((bench_endWash ..).trans (bench_book ..))

theorem bench_washFault (s : State) (i : Slot) : (washFaultPlate s i).1.bench = s.bench := by
  unfold washFaultPlate
  split
  · rfl
  · exact (bench_evaluateGate _).trans ((bench_holdAtStep ..).trans (bench_book ..))

theorem bench_drawerLoad (code : Byte) (s : State) (d : DrawerIx) : (drawerLoadAt code s d).1.bench = s.bench := by
  unfold drawerLoadAt
  repeat' split
  all_goals rfl

theorem bench_drawerOpen (s : State) (d : DrawerIx) : (drawerOpenAt s d).1.bench = s.bench := by
  unfold drawerOpenAt
  split <;> rfl

theorem bench_drawerClose (s : State) (d : DrawerIx) : (drawerCloseAt s d).1.bench = s.bench := by
  unfold drawerCloseAt
  split <;> rfl

theorem bench_drawerUnload (s : State) (d : DrawerIx) : (drawerUnloadAt s d).1.bench = s.bench := by
  unfold drawerUnloadAt
  split
  · rfl
  · rfl
  · exact bench_unloadDrawer ..

/-! ### Commands of the bed, the banks and the finisher position -/

theorem Accord.viaBank {act : State → Bank → State} (h : Accord s) (hact : ∀ b, Accord (act s b)) (p : Port) (code : Byte) :
    Accord (viaBank p code act s).1 := by
  unfold Machine.viaBank
  split
  · exact h
  · split
    · exact h
    · exact hact _

theorem Accord.loadReq (h : Accord s) (mode : Byte) : Accord (loadReqEffect mode s).1 := by
  have placed {u : State} (he : s.frame.state = .empty) (hu : u.bench = s.bench) (a b : Option Slot) :
      Accord (u.bedLoaded a b) :=
    (h.setFrame (v := ⟨.loaded, { slot := a }, { slot := b }⟩) (.inl he) (.inr rfl)).of_bench (bench_setFrame hu _)
  unfold loadReqEffect
  split
  · exact h
  split
  · exact h
  next he =>
  have he : s.frame.state = .empty := by simpa using he
  split
  · exact h
  split
  · exact h
  unfold State.load
  split
  · exact placed he (bench_placeOnFrame ..) ..
  split
  · exact placed he ((bench_placeOnFrame ..).trans (bench_placeOnFrame ..)) ..
  · exact placed he (bench_placeOnFrame ..) ..

/-- A channel of a phase that does not run is not under way. -/
theorem Unchecked.inactive {c : Chan} (h : Unchecked s) (hc : ¬ s.phaseRuns c) : s.chanActive c = false :=
  Bool.eq_false_iff.mpr fun ha => hc (h.phaseRuns ha)

theorem Accord.unload (h : Accord s) : Accord (unloadEffect s).1 := by
  unfold unloadEffect
  split
  · exact h
  next hs =>
    have hs : s.frame.state = .faceEnd := by simpa using hs
    refine (h.unchecked.clearBed h.settled.2 fun c hc => h.unchecked.inactive ?_).of_bench
      (bench_clearBed ((bench_settleLane ..).trans (bench_settleLane ..)))
    cases c with
    | backA | backB | faceA | faceB => simp [State.phaseRuns, hs]
    | detack | post => cases hc

theorem Accord.frameAbort (h : Accord s) : Accord (frameAbortEffect s).1 := by
  unfold frameAbortEffect
  split
  next hs => exact (h.setFrame (v := {}) (.inr hs) (.inl rfl)).of_bench (bench_setFrame (bench_undoLoad s) _)
  · exact h.breakOffLoad
  · exact h.breakOffLoad
  · exact h.breakOffLoad
  · exact h
  · exact h

theorem Accord.finishLoad (h : Accord s) (code : Byte) : Accord (finishLoadEffect code s).1 := by
  have loaded (he : ¬ (s.finisher.state != .empty) = true) (i : Slot) : Accord (s.loadFinisher i).1 :=
    (h.setFinisher (v := { state := .loaded, slot := some i }) (.inl (by simpa using he)) (.inr rfl)).of_bench
      (bench_setFinisher ((bench_modPlate ..).trans ((bench_clearReference ..).trans (bench_leaveList ..))) _)
  unfold finishLoadEffect
  split
  · exact h
  · split
    · exact h
    next he =>
      split
      · exact h
      · exact loaded he _
  · split
    · exact h
    next he =>
      split
      · exact h
      · exact loaded he _

theorem Accord.finishUnload (h : Accord s) : Accord (finishUnloadEffect s).1 := by
  unfold finishUnloadEffect
  split
  · exact h
  next hs =>
    have hs : s.finisher.state = .ended := by simpa using hs
    have hcleared : Accord s.clearFinisher := by
      refine h.unchecked.clearFinisher h.settled.1 fun c hc => h.unchecked.inactive ?_
      cases c with
      | detack | post => simp [State.phaseRuns, hs]
      | backA | backB | faceA | faceB => cases hc
    split
    · exact hcleared.of_bench (bench_clearFinisher (bench_settleFinished ..))
    · exact hcleared

theorem Accord.finishAbort (h : Accord s) : Accord (finishAbortEffect s).1 := by
  unfold finishAbortEffect
  split
  next hs _ => exact (h.setFinisher (v := {}) (.inr hs) (.inl rfl)).of_bench (bench_setFinisher (bench_undoFinish ..) _)
  · exact h.breakOffFinish _
  · exact h

/-! ### The rows -/

theorem Accord.effectOf {c : Instr} (h : Accord s) (hc : effectOf c = some f) : Accord (f s).1 := by
  cases c <;> cases hc
  case readPlate => exact h.of_bench (bench_viaSlot (fun _ => rfl) _)
  case readLine => exact h
  case writeType => exact h.of_bench (bench_writeType ..)
  case readType => exact h.of_bench (bench_readType ..)
  case stageLot => exact h.of_bench (bench_stageLot ..)
  case hold => exact h.of_bench (bench_viaSlot (bench_holdPlate s) _)
  case release => exact h.of_bench (bench_viaSlot (bench_releasePlate s) _)
  case scrap => exact h.of_bench (bench_viaSlot (bench_scrapPlate s) _)
  case purge => exact h.of_bench (bench_viaSlot (bench_purgePlate s) _)
  case setConfig => exact h.of_bench (bench_setConfig ..)
  case readConfig => exact h.of_bench (bench_readConfig ..)
  case setLoading => exact h.of_bench (bench_setMass ..)
  case loadReq => exact h.loadReq _
  case bankOn => exact h.viaBank h.bankOn _ _
  case bankOff => exact h.viaBank h.bankOff _ _
  case startBack => exact h.startBack
  case startFace => exact h.startFace
  case unload => exact h.unload
  case frameAbort => exact h.frameAbort
  case washClaim => exact h.of_bench (bench_washClaim ..)
  case washDone => exact h.of_bench (bench_viaSlot (bench_washDone s) _)
  case washFault => exact h.of_bench (bench_viaSlot (bench_washFault s) _)
  case replenish => exact h.of_bench (bench_replenish ..)
  case solventChange => exact h.of_bench (bench_setMass ..)
  case drawerLoad => exact h.of_bench (bench_viaDrawer (bench_drawerLoad _ s) _)
  case drawerOpen => exact h.of_bench (bench_viaDrawer (bench_drawerOpen s) _)
  case drawerClose => exact h.of_bench (bench_viaDrawer (bench_drawerClose s) _)
  case drawerUnload => exact h.of_bench (bench_viaDrawer (bench_drawerUnload s) _)
  case finishLoad => exact h.finishLoad _
  case finishStart => exact h.finishStart
  case finishAbort => exact h.finishAbort
  case finishUnload => exact h.finishUnload

theorem Accord.grant {p : Port} {bytes : List Byte} (h : Accord s) (hf : Accord (f s).1) : Accord (grant p bytes f s) := by
  rcases grant_cases p bytes f s with ⟨-, he⟩ | ⟨-, he⟩ <;> rw [he]
  · exact Accord.of_bench (s := (f s).1) rfl hf
  · exact h

theorem Accord.whileUp {g : State → State} (h : Accord s) (hg : Accord (g s)) : Accord (whileUp g s) := by
  unfold Machine.whileUp
  split
  · exact h
  · exact hg

/-- An invariant of the line goes through a row that leaves the line. -/
theorem Accord.of_line (h : Accord s) (hl : t.line = s.line) : Accord t := h.of_bench (bench_of_line hl)

theorem Accord.exec {c : Instr} (h : Accord s) (he : exec c s = .next t) : Accord t := by
  have same {u : State} (hu : u.line = s.line) (he : Host.Outcome.next u = (.next t : Host.Outcome State Fault Refusal)) :
      Accord t := by
    obtain rfl := Host.Outcome.next.inj he
    exact h.of_line hu
  have event {g : State → State} (hg : Accord (g s))
      (he : Host.Outcome.next (Machine.whileUp g s) = (.next t : Host.Outcome State Fault Refusal)) : Accord t := by
    obtain rfl := Host.Outcome.next.inj he
    exact h.whileUp hg
  cases hc : Machine.effectOf c with
  | some f =>
    obtain ⟨p, -, hx⟩ := exec_of_effectOf hc s
    obtain rfl := Host.Outcome.next.inj (hx.symm.trans he)
    exact h.grant (h.effectOf hc)
  | none =>
    cases c
    case powerOnReset =>
      obtain rfl := Host.Outcome.next.inj he
      exact accord_reset.of_line (line_powerOn s)
    case rstRise => exact same (u := { s with rstLow := false }) rfl he
    case selFall p =>
      refine same ?_ he
      split
      · rfl
      · split <;> rfl
    case selRise p =>
      obtain rfl := Host.Outcome.next.inj he
      exact h.of_line rfl
    case arbiterWait | unknownCommand | wrongPortCommand =>
      refine same ?_ he
      split
      · exact lastByte_line ..
      · rfl
    case readStatus | evtFreeze | evtTake | evtDone | portReset => exact same (lastByte_line ..) he
    case byteArrival p b => exact event (h.of_line (shiftByte_line ..)) he
    case warmTimerExpiry b => exact event (h.warmExpiry b) he
    case dryTimerExpiry d => exact event (h.of_bench (bench_dryExpiry ..)) he
    case overdueTimerExpiry i => exact event (h.of_bench (bench_overdueExpiry ..)) he
    case sampleDue c => exact event (h.sampleDue c) he
    case sensorReadStart => exact event h.begin he
    case sensorReadComplete a => exact event (h.readComplete a) he
    case timerDecrement m => exact event (h.decrement m) he
    all_goals cases hc

theorem Accord.step (h : Accord s) (he : step s = .next t) : Accord t := by
  unfold Machine.step at he
  split at he
  · obtain rfl := Host.Outcome.next.inj he
    exact h
  next c rest _ => exact (h.of_line (t := { s with pending := rest }) rfl).exec he

/-- Settles O58: every row keeps what is held of each channel in accord, and so does every step. -/
theorem everyStepKeepsTheLightChannels : Obligations.EveryStepKeepsTheLightChannels := fun _ _ hlight hphases hlit he =>
  have h := Accord.step ⟨hlight, hphases, hlit⟩ he
  ⟨h.light, h.phases, h.lit⟩

end

end Sys2Proof.Machine
end

section
/-! FINISH_START (R104, R157, R158): DETACK and POST are started for the plate in the position, each on its own, and the
run is over at once where neither has a need. -/

namespace Sys2Proof.Machine

section
variable {s : State} {i : Slot} {kD kP : Channel} {es : List Event} {runs : Bool}

/-- The state with the finisher position in another state, its plate and marks as they are. -/
def State.setFinisherState (s : State) (st : FinisherState) : State :=
  { s with finisher := { s.finisher with state := st } }

theorem LightOk.setFinisherState (h : LightOk s) (st : FinisherState) : LightOk (s.setFinisherState st) :=
  h.setFinisher _

/-! ### The run that is begun (R158) -/

@[simp] theorem postAll_finisher (s : State) (p : Port) (es : List Event) : (s.postAll p es).finisher = s.finisher :=
  postAll_keeps State.finisher (fun _ _ _ => rfl) s p es

theorem postAll_setFinisherState (s : State) (p : Port) (es : List Event) (st : FinisherState) :
    (s.postAll p es).setFinisherState st = (s.setFinisherState st).postAll p es :=
  postAll_comm (f := fun t => t.setFinisherState st) (fun _ _ _ => rfl) s p es

theorem checkFinishPhase_of_running (h : s.finisher.state = .running) : s.checkFinishPhase
    = if s.chanActive .detack || s.chanActive .post then s
      else (s.setFinisherState .ended).postAll .D [⟨.phaseEnd, s.finisher.slot, 2⟩] :=
  (phasesEndWithTheirLastChannel s .detack).2.2 rfl h

/-- The finishing channels are given their records and their stops posted: the run goes on, or is over at once
(R158). -/
theorem checkFinishPhase_of_started (hr : (kD.state.isActive || kP.state.isActive) = runs) :
    ((((s.setFinisherState .running).modChan .detack fun _ => kD).modChan .post fun _ => kP).postAll .D
        es).checkFinishPhase
      = State.postAll
          { s with
            chans := (s.chans.set 4 kD).set 5 kP
            finisher := { s.finisher with state := if runs then .running else .ended } }
          .D (es ++ if runs then [] else [⟨.phaseEnd, s.finisher.slot, 2⟩]) := by
  have hD := State.chan_modChan_ne ((s.setFinisherState .running).modChan .detack fun _ => kD) (fun _ => kP)
    (i := .post) (j := .detack) (by decide)
  rw [checkFinishPhase_of_running (by rw [postAll_finisher]; rfl)]
  simp only [State.chanActive, postAll_chan, hD, State.chan_modChan_self, hr]
  cases runs
  · rw [postAll_append, postAll_setFinisherState, postAll_finisher]; rfl
  · simp only [↓reduceIte, List.append_nil]; rfl

/-! ### The channels of the position (R104, R157) -/

/-- Two channels, IDLE and with no requests, are started for one plate, each with its own need and limit (R104). -/
theorem startFor_startFor_alone {a b : Chan} {o : Option Slot} {needsA needsB : Slot → Int}
    {limitsA limitsB : Slot → Nat} (hab : b ≠ a) (hport : b.port = a.port) (hd : DosesOk s) (hqa : s.link.drop a = s.link)
    (hqb : s.link.drop b = s.link) (ha : s.chan a = Channel.idle) (hb : s.chan b = Channel.idle) :
    (s.startFor a o needsA limitsA).startFor b o needsB limitsB
      = ((s.modChan a fun _ => startedFor o needsA limitsA s.intervalNow).modChan b fun _ =>
          startedFor o needsB limitsB s.intervalNow).postAll a.port
            (stopsAtStart o needsA a ++ stopsAtStart o needsB b) := by
  rw [startFor_eq hd hqa ha, startFor_eq (fun i => by simpa using hd i) (by simpa using hqb)
    (by simpa [State.chan_modChan_ne _ _ hab] using hb), postAll_modChan, hport, postAll_append, postAll_intervalNow]
  rfl

/-- The run is under way while either of its channels has a need (R158). -/
theorem startOutcome_two_isActive (i : Slot) (needA needB : Int) (limitA limitB ts : Nat) :
    ((startOutcome i none needA limitA ts).state.isActive || (startOutcome i none needB limitB ts).state.isActive)
      = decide (0 < needA ∨ 0 < needB) := by
  rw [startOutcome_isActive, startOutcome_isActive, Bool.decide_or]

theorem startFinishing_of_idle (hl : LightOk s) (hd : DosesOk s) (hi : s.finisher.slot = some i)
    (hD : (s.chan .detack).state = .idle) (hP : (s.chan .post).state = .idle) : s.startFinishing
      = ((s.modChan .detack fun _ =>
            startOutcome i none (s.detackNeed i) ((s.plateType i).detackMaxS * 1000) s.intervalNow).modChan .post
          fun _ => startOutcome i none (s.postNeed i) ((s.plateType i).postMaxS * 1000) s.intervalNow).postAll .D
            (stopsAtStart (some i) s.detackNeed .detack ++ stopsAtStart (some i) s.postNeed .post) := by
  obtain ⟨hkD, hqD⟩ := hl.of_idle hD
  obtain ⟨hkP, hqP⟩ := hl.of_idle hP
  simp only [State.startFinishing, hi]
  exact startFor_startFor_alone (o := some i) (limitsA := fun i => (s.plateType i).detackMaxS * 1000)
    (limitsB := fun i => (s.plateType i).postMaxS * 1000) (a := .detack) (b := .post) (by decide) rfl hd hqD hqP hkD hkP

/-! ### The statement -/

theorem finishStartEffect_of_ready (hs : s.finisher.state = .loaded) (hD : (s.bank .detack).state = .ready)
    (hP : (s.bank .post).state = .ready) : finishStartEffect s
      = ((s.setFinisherState .running).startFinishing.checkFinishPhase, Reply.just .ok) := by
  simp [finishStartEffect, hs, hD, hP, State.setFinisherState]

/-- Settles O48: the two checks, then the start of both channels and the end of a run that has none under way. -/
theorem finishStartStartsTheRun : Obligations.FinishStartStartsTheRun := by
  intro s hg
  rw [exec_finishStart hg]
  refine ⟨fun hs => ?_, fun hs hb => ?_, fun hs hD hP hl hp hd => ?_⟩
  · rw [finishStartEffect, if_pos (by simpa using hs)]; rfl
  · rw [finishStartEffect, if_neg (by simp [hs]), if_pos (by simpa using hb)]; rfl
  rintro i _ _ _ _ hi rfl rfl rfl rfl
  obtain ⟨hkD, hkP⟩ := hp.finishIdle (.inr hs)
  rw [finishStartEffect_of_ready hs hD hP,
    startFinishing_of_idle (s := s.setFinisherState .running) (hl.setFinisherState _) hd hi hkD hkP,
    Nat.mul_comm _ 1000, Nat.mul_comm _ 1000, checkFinishPhase_of_started (startOutcome_two_isActive ..), hi]
  rfl

end

end Sys2Proof.Machine
end

section
/-! Samples and the Sensor Link (R105 to R108): the sample that falls due, alone or with its pair's, the request that
the idle link takes, and the bit times of a read. -/

namespace Sys2Proof.Machine

section
variable {s : State} {c d : Chan}

/-! ### A sample falls due (R105, R106) -/

theorem exec_sampleDue (c : Chan) (h : s.rstLow = false) : exec (.sampleDue c) s = .next (s.sampleDue c) :=
  congrArg Host.Outcome.next (if_neg (by simp [h]))

theorem canFallDue_of_read_ended (hr : (s.chan c).state = .running) (ho : (s.chan c).readOutstanding = false)
    (hc : s.linkCarries c = false) : s.canFallDue c = true := by
  simp [State.canFallDue, hr, ho, hc]

theorem sampleDue_of_single (hp : (s.chan c).partner = none) (hc : s.canFallDue c = true) :
    s.sampleDue c = s.fallDue c := by
  rw [State.sampleDue, (State.runOf_none hp).1, if_pos (by simpa using hc)]
  rfl

theorem sampleDue_of_pair (hp : (s.chan c).partner = some d) (hc : s.canFallDue c = true) (hd : s.canFallDue d = true) :
    s.sampleDue c = (s.fallDue c).fallDue d := by
  rw [State.sampleDue, (State.runOf_some hp).1, if_pos (by simp [hc, hd])]
  rfl

theorem sampleDue_of_not_running (h : (s.chan c).state ≠ .running) : s.sampleDue c = s := by
  have hc : s.canFallDue c = false := by simp [State.canFallDue, h]
  exact if_neg fun hall => Bool.false_ne_true (hc.symm.trans (List.all_eq_true.mp hall c (mem_runOf.mpr (.inl rfl))))

/-- The samples of two channels fall due in turn: the second finds its interval as it was before the first. -/
theorem fallDue_fallDue (s : State) (h : d ≠ c) : (s.fallDue c).fallDue d
    = (State.modChan
        { s with link := { s.link with
            due := (s.link.due.set c.index (s.chan c).interval).set d.index (s.chan d).interval } } c fun k =>
        { k with readOutstanding := true, interval := some s.intervalNow }).modChan d fun k =>
          { k with readOutstanding := true, interval := some s.intervalNow } := by
  have hd : ((s.fallDue c).chan d).interval = (s.chan d).interval :=
    congrArg (fun m => m.chan.interval) (meter_fallDue_ne s h)
  rw [State.fallDue, hd]
  rfl

/-! ### The request that the link takes (R107) -/

theorem exec_sensorReadStart (h : s.rstLow = false) :
    exec .sensorReadStart s = .next { s with link := s.link.begin } :=
  congrArg Host.Outcome.next (if_neg (by simp [h]))

/-- The channels stand in the order of their numbers (R101). -/
theorem allChans_split (c : Chan) : allChans = allChans.take c.index ++ c :: allChans.drop (c.index + 1) := by
  cases c <;> rfl

theorem index_lt_of_mem_take (c : Chan) : ∀ d ∈ allChans.take c.index, d.index < c.index := by
  cases c <;> decide

theorem Link.nextDue_of_lowest {k : Link} {ts : Nat} (hc : k.due[c.index] = some ts)
    (hlow : ∀ d : Chan, d.index < c.index → k.due[d.index] = none) : k.nextDue = some (c, ts) :=
  List.findSome?_eq_some_iff.mpr ⟨_, c, _, allChans_split c, by rw [hc]; rfl,
    fun d hd => by rw [hlow d (index_lt_of_mem_take c d hd)]; rfl⟩

theorem Link.nextDue_of_none {k : Link} (h : ∀ c : Chan, k.due[c.index] = none) : k.nextDue = none :=
  List.findSome?_eq_none_iff.mpr fun c _ => by rw [h c]; rfl

theorem Link.begin_of_request {k : Link} {ts : Nat} (hb : k.busy = none) (hn : k.nextDue = some (c, ts)) :
    k.begin = ⟨some ⟨c, ts, true⟩, k.due.set c.index none, wireHead c.sensorAddress⟩ := by
  simp only [Link.begin, hb, hn]

theorem Link.begin_of_busy {k : Link} (hb : k.busy.isSome = true) : k.begin = k := by
  obtain ⟨r, hr⟩ := Option.isSome_iff_exists.mp hb
  simp only [Link.begin, hr]

theorem Link.begin_of_noRequest {k : Link} (hn : k.nextDue = none) : k.begin = k := by
  cases hb : k.busy <;> simp only [Link.begin, hb, hn]

/-! ### The bit times of a read (R108) -/

theorem sensorAddress_eq (c : Chan) : c.sensorAddress = BitVec.ofNat 7 (0x30 + c.index.val) := by
  cases c <;> rfl

/-- The bits of a vector, by their numbers: the highest first. -/
theorem map_bitsMsbFirst {α : Type} {n : Nat} (v : BitVec n) (f : Bool → α) (bit : Nat → Bool)
    (h : ∀ k < n, v.getLsbD (n - 1 - k) = bit k) : (bitsMsbFirst v).map f = (List.range n).map fun k => f (bit k) := by
  rw [bitsMsbFirst, List.map_map]
  refine List.map_congr_left fun k hk => congrArg f ((BitVec.getMsbD_eq_getLsbD v k).trans ?_)
  have hk := List.mem_range.mp hk
  rw [decide_eq_true hk, Bool.true_and, h k hk]

theorem wireHead_eq (c : Chan) : wireHead c.sensorAddress
    = WireSymbol.start :: (List.range 7).map (fun n => WireSymbol.linkBit ((0x30 + c.index.val).testBit (6 - n)))
      ++ [WireSymbol.linkBit true] := by
  rw [wireHead, map_bitsMsbFirst _ _ fun n => (0x30 + c.index.val).testBit (6 - n)]
  intro n _
  rw [sensorAddress_eq, BitVec.getLsbD_ofNat, decide_eq_true (by omega), Bool.true_and]

theorem wireTail_some (v : Word) : wireTail (some v)
    = WireSymbol.sensorAck true :: (List.range 8).map (fun n => WireSymbol.sensorBit (v.getLsbD (15 - n)))
      ++ [WireSymbol.linkAck true] ++ (List.range 8).map (fun n => WireSymbol.sensorBit (v.getLsbD (7 - n)))
      ++ [WireSymbol.linkAck false, WireSymbol.stop] := by
  have hhigh : ∀ n < 8, (v.extractLsb' 8 8).getLsbD (8 - 1 - n) = v.getLsbD (15 - n) := fun n hn => by
    rw [BitVec.getLsbD_extractLsb', decide_eq_true (by omega), Bool.true_and]
    congr 1; omega
  have hlow : ∀ n < 8, (v.setWidth 8).getLsbD (8 - 1 - n) = v.getLsbD (7 - n) := fun n hn => by
    rw [BitVec.getLsbD_setWidth, decide_eq_true (by omega), Bool.true_and]
  rw [wireTail, map_bitsMsbFirst _ _ _ hhigh, map_bitsMsbFirst _ _ _ hlow]

/-! ### The statement -/

/-- Settles O51: the samples of a channel or a pair, the request that the link takes, and the two ends of a read. -/
theorem samplesFallDueAndAreRead : Obligations.SamplesFallDueAndAreRead := by
  refine ⟨fun s c hrst hr ho hc => ⟨fun hp => ?_, fun d hp hl hod hcd => ?_⟩, fun s c hrst hr => ?_,
    fun s hrst => ⟨fun c ts hb hdue hlow => ?_, fun h => ?_⟩, ?_⟩
  · rw [exec_sampleDue c hrst, sampleDue_of_single hp (canFallDue_of_read_ended hr ho hc)]
    rfl
  · obtain ⟨hof, -, hst, -⟩ := hl.pairs c d hp
    rw [exec_sampleDue c hrst, sampleDue_of_pair hp (canFallDue_of_read_ended hr ho hc)
      (canFallDue_of_read_ended (hst.trans hr) hod hcd), fallDue_fallDue s (partnerOf_ne hof)]
    rfl
  · rw [exec_sampleDue c hrst, sampleDue_of_not_running hr]
  · rw [exec_sensorReadStart hrst, Link.begin_of_request hb (Link.nextDue_of_lowest hdue hlow), wireHead_eq]
  · have hkeep : s.link.begin = s.link :=
      h.elim Link.begin_of_busy fun hnone => Link.begin_of_noRequest (Link.nextDue_of_none hnone)
    rw [exec_sensorReadStart hrst, hkeep]
  · rintro k c head rfl
    have hwire (answer : Option Word) : (k.ended c answer).wire = wireHead c.sensorAddress ++ wireTail answer := rfl
    refine ⟨by rw [hwire, wireHead_eq]; rfl, fun v => ?_⟩
    rw [hwire, wireHead_eq, wireTail_some]
    simp only [List.append_assoc, List.cons_append]

end

end Sys2Proof.Machine
end

section
/-! The solvent account and the transit list (R124 to R129): what leaves them alone, what evaluates the gate, what changes
the list, and O57. -/

namespace Sys2Proof.Machine

/-- The state with all but the configuration, the solvent account and the transit list as after reset. -/
def State.washout (s : State) : State :=
  { State.reset with config := s.config, solvent := s.solvent, transit := s.transit }

section
variable {s t : State} {i : Slot}

theorem SolventOk.of_washout (hs : SolventOk s) (h : t.washout = s.washout) : SolventOk t := by
  have hw : SolventOk t.washout := h ▸ (⟨hs.unknown, hs.unknownQuiet, hs.warn, hs.opened, hs.spent, hs.room,
    hs.timers⟩ : SolventOk s.washout)
  exact ⟨hw.unknown, hw.unknownQuiet, hw.warn, hw.opened, hw.spent, hw.room, hw.timers⟩

/-! ### Records and lists -/

@[simp] theorem washout_modPlate (s : State) (i : Slot) (f : Plate → Plate) : (s.modPlate i f).washout = s.washout := rfl

@[simp] theorem washout_holdAtStep (s : State) (i : Slot) (reason : HoldReason) (from_ : HeldFrom) (p : Port) :
    (s.holdAtStep i reason from_ p).washout = s.washout := rfl

@[simp] theorem washout_setWaitList (s : State) (l : WaitList) (q : List Slot) :
    (s.setWaitList l q).washout = s.washout := by
  cases l <;> rfl

@[simp] theorem washout_leaveList (s : State) (l : WaitList) (i : Slot) : (s.leaveList l i).washout = s.washout :=
  washout_setWaitList ..

@[simp] theorem washout_fillList (s : State) (l : WaitList) (q : List Slot) : (s.fillList l q).washout = s.washout := by
  rw [State.fillList]
  cases (s.waitList l).isEmpty <;> exact washout_setWaitList ..

@[simp] theorem washout_joinTail (s : State) (l : WaitList) (i : Slot) : (s.joinTail l i).washout = s.washout :=
  washout_fillList ..

@[simp] theorem washout_leaveOwnList (s : State) (i : Slot) : (s.leaveOwnList i).washout = s.washout := by
  unfold State.leaveOwnList
  split
  · exact washout_leaveList ..
  · rfl

@[simp] theorem washout_joinReleased (s : State) (i : Slot) (dest : HeldFrom) :
    (s.joinReleased i dest).washout = s.washout := by
  cases dest <;> simp [State.joinReleased]

theorem washout_foldl {α : Type} {f : State → α → State} (hf : ∀ u a, (f u a).washout = u.washout) (l : List α)
    (s : State) : (l.foldl f s).washout = s.washout := by
  induction l generalizing s with
  | nil => rfl
  | cons a l ih => exact (ih _).trans (hf s a)

@[simp] theorem washout_tellSolvent (s : State) (es : List Event) : (s.tellSolvent es).washout = s.washout :=
  washout_foldl (f := fun t e => (t.post .P e).post .W e) (fun _ _ => rfl) es s

/-! ### Moves of plates outside the washout -/

@[simp] theorem washout_stage (s : State) (mk : Nat → Plate) (slots : List Slot) :
    (s.stage mk slots).washout = s.washout := by
  obtain ⟨plates, h⟩ := fillCopies_eq mk 0 slots s
  rw [State.stage, washout_fillList, h]
  rfl

@[simp] theorem washout_bedLoaded (s : State) (a b : Option Slot) : (s.bedLoaded a b).washout = s.washout := rfl

@[simp] theorem washout_placeOnFrame (s : State) (i : Slot) (lane : LanePlace) :
    (s.placeOnFrame i lane).washout = s.washout :=
  washout_leaveList ..

@[simp] theorem washout_settleLane (s : State) (lane : Lane) : (s.settleLane lane).washout = s.washout := by
  unfold State.settleLane
  split
  · unfold State.settleUnloaded
    split
    · rfl
    split
    · rfl
    split
    · rfl
    · exact washout_joinTail ..
  · rfl

@[simp] theorem washout_undoLane (s : State) (ahead : Option Slot) (i : Slot) :
    (s.undoLane ahead i).washout = s.washout := by
  unfold State.undoLane
  split
  · rfl
  · exact washout_fillList ..

@[simp] theorem washout_undoLoad (s : State) : s.undoLoad.washout = s.washout := by
  unfold State.undoLoad
  split <;> simp

@[simp] theorem washout_clearBed (s : State) : s.clearBed.washout = s.washout := rfl

theorem LightMove.washout {P : Slot → Prop} (h : LightMove P s t) : t.washout = s.washout :=
  (congrArg State.washout h.rest :)

@[simp] theorem washout_abortRun (s : State) (c : Chan) : (s.abortRun c).washout = s.washout :=
  (LightMove.abortRun (P := fun _ => True) fun _ _ _ => trivial).washout

@[simp] theorem washout_breakOffLoad (s : State) : s.breakOffLoad.washout = s.washout := by
  rw [State.breakOffLoad, washout_clearBed, washout_foldl (f := State.holdAborted) fun _ _ => rfl,
    washout_foldl washout_abortRun]

@[simp] theorem washout_endDrying (s : State) (i : Slot) : (s.endDrying i).washout = s.washout := by
  unfold State.endDrying
  split
  · rfl
  · exact washout_joinTail ..

@[simp] theorem washout_dryExpiry (s : State) (d : DrawerIx) : (s.dryExpiry d).washout = s.washout := by
  unfold State.dryExpiry
  split
  · split
    · exact washout_endDrying ..
    · rfl
  · rfl

@[simp] theorem washout_unloadDrawer (s : State) (d : DrawerIx) (i : Slot) :
    (s.unloadDrawer d i).washout = s.washout := by
  unfold State.unloadDrawer
  split <;> rfl

@[simp] theorem washout_clearReference (s : State) (i : Slot) : (s.clearReference i).washout = s.washout := by
  unfold State.clearReference
  split <;> rfl

@[simp] theorem washout_clearFinisher (s : State) : s.clearFinisher.washout = s.washout := rfl

@[simp] theorem washout_settleFinished (s : State) (i : Slot) : (s.settleFinished i).washout = s.washout := by
  unfold State.settleFinished
  split
  · rfl
  split
  · rfl
  split <;> rfl

@[simp] theorem washout_undoFinish (s : State) (i : Slot) : (s.undoFinish i).washout = s.washout := by
  unfold State.undoFinish
  split
  · rfl
  · exact washout_fillList ..

@[simp] theorem washout_breakOffFinish (s : State) (i : Slot) : (s.breakOffFinish i).washout = s.washout :=
  (washout_abortRun ..).trans (washout_abortRun ..)

@[simp] theorem washout_endWash (s : State) (i : Slot) : (s.endWash i).washout = s.washout := by
  unfold State.endWash
  split
  · rfl
  · exact washout_joinTail ..

/-! ### The gate evaluation (R127) -/

/-- The transit list in accord with itself and with M, which is all of the account that a gate evaluation relies on
(R124 to R126). -/
structure TransitOk (s : State) : Prop where
  quiet : s.solvent.mass = none → s.transit = []
  room : s.transit.length ≤ 3
  timers : ∀ e ∈ s.transit, e.remaining ≤ 19800 ∧ (e.expired = true ↔ e.remaining = 0)

theorem SolventOk.transitOk (h : SolventOk s) : TransitOk s := ⟨fun hm => (h.unknownQuiet hm).2, h.room, h.timers⟩

theorem TransitOk.of_washout (hs : TransitOk s) (h : t.washout = s.washout) : TransitOk t := by
  have hw : TransitOk t.washout := h ▸ (⟨hs.quiet, hs.room, hs.timers⟩ : TransitOk s.washout)
  exact ⟨hw.quiet, hw.room, hw.timers⟩

theorem nextGate_ne_unknown (g : Gate) (l lHold lResume : Nat) : nextGate g l lHold lResume ≠ .unknown := by
  rw [nextGate_eq]
  split <;> split <;> decide

/-- The gate is OPENED below LHOLD and SPENT above LRESUME, by whichever way it got there. -/
theorem nextGate_accord (g : Gate) {l lHold lResume : Nat} (h : lResume < lHold) :
    (nextGate g l lHold lResume = .opened → l < lHold) ∧ (nextGate g l lHold lResume = .spent → lResume < l) := by
  rw [nextGate_eq]
  split
  · split
    next hle => exact ⟨fun _ => hle.trans_lt h, nofun⟩
    next hgt => exact ⟨nofun, fun _ => Nat.lt_of_not_le hgt⟩
  · split
    next hle => exact ⟨nofun, fun _ => h.trans_le hle⟩
    next hgt => exact ⟨fun _ => Nat.lt_of_not_le hgt, nofun⟩

/-- A gate evaluation sets the gate and the warn flag right, whatever they were. -/
theorem TransitOk.evaluateGate (h : TransitOk s) (hl : s.item .lResume < s.item .lHold) : SolventOk s.evaluateGate := by
  cases hm : s.solvent.mass with
  | none =>
    rw [evaluateGate_of_unknown hm]
    exact ⟨by simp, fun _ => ⟨rfl, h.quiet hm⟩, by simp, nofun, nofun, h.room, h.timers⟩
  | some m =>
    rw [evaluateGate_of_known hm rfl rfl rfl]
    obtain ⟨hopened, hspent⟩ := nextGate_accord s.solvent.gate (l := m / s.item .tankL) hl
    refine SolventOk.of_washout (s := s.withSolvent _) ?_ (washout_tellSolvent ..)
    refine ⟨?_, fun hn => absurd hn (Option.some_ne_none m), ?_, fun hg _ he => ?_, fun hg _ he => ?_, h.room, h.timers⟩
    · exact ⟨fun hg => (nextGate_ne_unknown _ _ _ _ hg).elim, nofun⟩
    · rintro _ ⟨⟩
      exact decide_eq_true_iff
    · cases he
      exact hopened hg
    · cases he
      exact hspent hg

/-! ### Changes of the transit list and of M -/

/-- A change of the transit list that leaves M known or unknown as it was keeps the account. -/
theorem SolventOk.setTransit (h : SolventOk s) {l : List TransitEntry} (hl : TransitOk { s with transit := l }) :
    SolventOk { s with transit := l } :=
  ⟨h.unknown, fun hm => ⟨(h.unknownQuiet hm).1, hl.quiet hm⟩, h.warn, h.opened, h.spent, hl.room, hl.timers⟩

/-- Every entry's timer moves within its range. -/
theorem TransitOk.map (h : TransitOk s) {g : TransitEntry → TransitEntry}
    (hg : ∀ e : TransitEntry, e.remaining ≤ 19800 ∧ (e.expired = true ↔ e.remaining = 0) →
      (g e).remaining ≤ 19800 ∧ ((g e).expired = true ↔ (g e).remaining = 0)) :
    TransitOk { s with transit := s.transit.map g } := by
  refine ⟨fun hm => ?_, (List.length_map g).trans_le h.room, fun e he => ?_⟩
  · exact (congrArg (List.map g) (h.quiet hm)).trans rfl
  · obtain ⟨d, hd, rfl⟩ := List.mem_map.mp he
    exact hg d (h.timers d hd)

theorem SolventOk.overdueSecond (h : SolventOk s) (i : Slot) :
    SolventOk { s with transit := s.transit.map fun e => e.tick i } := by
  refine h.setTransit (h.transitOk.map fun e he => ?_)
  unfold TransitEntry.tick
  split
  next hc =>
    obtain ⟨-, hx, hr⟩ := hc
    simp only [hx]
    exact ⟨by omega, nofun, by omega⟩
  · exact he

theorem SolventOk.overdueExpiry (h : SolventOk s) (i : Slot) : SolventOk (s.overdueExpiry i) := by
  unfold State.overdueExpiry
  split
  · refine (h.setTransit ?_).of_washout rfl
    refine h.transitOk.map fun e he => ?_
    split
    · simp
    · exact he
  · exact h

/-- The overdue time of a claim is 1 to 19,800 seconds (R55, R56). -/
theorem overdueTime_range (hset : SettingsOk s) (raw : Nat) :
    let o := overdueTime (s.item .brushLen) (clampSpeed (s.item .vMin) (s.item .vMax) raw) (s.item .washTail)
    1 ≤ o ∧ o ≤ 19800 := by
  have hv := clampTo_range hset.speeds.le raw
  have hmin := (hset.range .vMin).1
  have hbrush := hset.range .brushLen
  have htail := (hset.range .washTail).2
  simp only [Item.range] at hmin hbrush htail
  rw [← clampSpeed] at hv
  generalize clampSpeed (s.item .vMin) (s.item .vMax) raw = v at hv
  have hceil : ceilDiv (s.item .brushLen * 60) v ≤ 9000 := (ceilDiv_le_iff (by omega)).mpr (by omega)
  have hpos : ¬ ceilDiv (s.item .brushLen * 60) v ≤ 0 := fun h => by
    have := (ceilDiv_le_iff (by omega)).mp h
    omega
  unfold overdueTime
  omega

/-- With the gate open and room in the list, an entry with its timer in range may join (R124, R129). -/
theorem SolventOk.joinTransit (h : SolventOk s) (hg : s.solvent.gate = .opened) (hl : s.transit.length < 3)
    {e : TransitEntry} (he : e.remaining ≤ 19800 ∧ (e.expired = true ↔ e.remaining = 0)) :
    SolventOk { s with transit := s.transit ++ [e] } := by
  refine h.setTransit ⟨fun hm => ?_, ?_, fun d hd => ?_⟩
  · exact absurd (hg.symm.trans (h.unknown.mpr hm)) nofun
  · rw [List.length_append, List.length_singleton]
    exact hl
  · rcases List.mem_append.mp hd with hd | hd
    · exact h.timers d hd
    · rwa [List.mem_singleton.mp hd]

/-- A claim starts the plate's overdue timer within its range (R125, R130). -/
theorem SolventOk.claim (h : SolventOk s) (hset : SettingsOk s) (hg : s.solvent.gate = .opened)
    (hl : s.transit.length < 3) (i : Slot) : SolventOk (s.claim i).1 := by
  obtain ⟨hpos, hmax⟩ := overdueTime_range hset (s.speedFor i)
  exact (h.joinTransit hg hl (e := ⟨i, _, false⟩) ⟨hmax, nofun, fun h0 => absurd h0 (Nat.ne_of_gt hpos)⟩).of_washout rfl

theorem TransitOk.leaveTransit (h : TransitOk s) (i : Slot) : TransitOk (s.leaveTransit i) where
  quiet hm := (congrArg (List.filter _) (h.quiet hm)).trans rfl
  room := (List.length_filter_le ..).trans h.room
  timers e he := h.timers e (List.mem_of_mem_filter he)

theorem TransitOk.book (h : TransitOk s) (i : Slot) : TransitOk (s.book i) := by
  unfold State.book
  split
  · exact h
  · exact ⟨fun hm => h.quiet (Option.map_eq_none_iff.mp hm), h.room, h.timers⟩

theorem item_leaveTransit_book (s : State) (i : Slot) (x : Item) : ((s.leaveTransit i).book i).item x = s.item x := by
  unfold State.book
  split <;> rfl

/-- A plate leaves the washout, its mass is booked, and the gate is evaluated (R131 to R133). -/
theorem SolventOk.leaveWashout (h : SolventOk s) (hset : SettingsOk s)
    (ht : t.washout = ((s.leaveTransit i).book i).washout) : SolventOk t.evaluateGate := by
  have hitem (x : Item) : t.item x = s.item x :=
    (congrArg (fun u => State.item u x) ht :).trans (item_leaveTransit_book s i x)
  refine (((h.transitOk.leaveTransit i).book i).of_washout ht).evaluateGate ?_
  rw [hitem, hitem]
  exact hset.loadings

theorem SolventOk.setMass (h : SolventOk s) (hset : SettingsOk s) (m : Nat) : SolventOk (s.setMass m).evaluateGate :=
  TransitOk.evaluateGate (s := s.setMass m) ⟨nofun, h.room, h.timers⟩ hset.loadings

/-- An item that moves no gate leaves TANK_L and the three loadings as they are (R185). -/
theorem SolventOk.setItem (h : SolventOk s) {x : Item} (hx : x.movesGate = false) (v : Nat) :
    SolventOk (s.setItem x v) := by
  have hi {y : Item} (hy : y.movesGate = true) : (s.setItem x v).item y = s.item y :=
    State.item_setItem_ne _ _ fun e => by simp [← e, hy] at hx
  refine ⟨h.unknown, h.unknownQuiet, fun m hm => ?_, fun hg m hm => ?_, fun hg m hm => ?_, h.room, h.timers⟩
  · rw [hi rfl, hi rfl]; exact h.warn m hm
  · rw [hi rfl, hi rfl]; exact h.opened hg m hm
  · rw [hi rfl, hi rfl]; exact h.spent hg m hm

theorem SolventOk.storeItem (h : SolventOk s) (hset : SettingsOk s) (x : Item) (v : Nat) :
    SolventOk (s.storeItem x (s.configValue x v)) := by
  unfold State.storeItem State.itemChanged
  split
  · exact h
  split
  · have hloadings := (hset.store (t := s.setItem x (s.configValue x v)) rfl).loadings
    exact TransitOk.evaluateGate ⟨h.transitOk.quiet, h.room, h.timers⟩ hloadings
  next hx => exact h.setItem (by simpa using hx) _

/-! ### The deeds -/

theorem StoreDeed.solventOk (hd : StoreDeed s t) (hset : SettingsOk s) (h : SolventOk s) : SolventOk t := by
  cases hd with
  | storeItem x v => exact h.storeItem hset x v
  | setMass m _ => exact h.setMass hset m
  | overdueSecond i => exact h.overdueSecond i
  | _ => exact h.of_washout rfl

theorem PlateDeed.solventOk (hd : PlateDeed s t) (hset : SettingsOk s) (h : SolventOk s) : SolventOk t := by
  cases hd with
  | claim i hg hl _ => exact h.claim hset hg hl i
  | washDone i _ => exact h.leaveWashout hset (washout_endWash ..)
  | washFault i _ => exact h.leaveWashout hset (washout_holdAtStep ..)
  | overdue i _ => exact h.overdueExpiry i
  | undoLoad _ => exact h.of_washout (washout_undoLoad s)
  | loadDrawer d i _ _ => exact h.of_washout (washout_leaveList ..)
  | loadFinisher i _ _ => exact h.of_washout ((washout_clearReference ..).trans (washout_leaveList ..))
  | undoFinish i _ => exact h.of_washout (washout_undoFinish s i)
  | _ => exact h.of_washout (by simp)

theorem Deed.solventOk (hd : Deed s t) (hset : SettingsOk s) (h : SolventOk s) : SolventOk t := by
  cases hd with
  | store hd => exact hd.solventOk hset h
  | plate hd => exact hd.solventOk hset h
  | light hd => exact h.of_washout hd.lightMove.washout

/-- Settles O57, deed by deed. -/
theorem everyStepKeepsTheSolventAccount : Obligations.EveryStepKeepsTheSolventAccount := fun _ _ hset hsol =>
  step_keeps SolventOk.of_line solventOk_reset fun he hd =>
    hd.solventOk (hset.of_line he.symm) (hsol.of_line he.symm)

end

end Sys2Proof.Machine
end

section
/-! DRAWER_LOAD, DRAWER_OPEN and DRAWER_CLOSE (R143 to R148). -/

namespace Sys2Proof.Machine

section
variable {s : State} {code : Byte} {d : DrawerIx} {i : Slot} {before after : List Slot}

/-! ### DRAWER_LOAD (R145, R146) -/

theorem drawerLoadAt_of_bad (hc : slotCode code = .bad) : drawerLoadAt code s d = refuse .badSlot s := by
  rw [drawerLoadAt, hc]

theorem drawerLoadAt_of_busy (hc : slotCode code ≠ .bad) (hd : (s.drawer d).state ≠ .empty) :
    drawerLoadAt code s d = refuse .drawerBusy s := by
  have hbusy : ((s.drawer d).state != .empty) = true := bne_iff_ne.mpr hd
  unfold drawerLoadAt
  split
  next h => exact absurd h hc
  · exact if_pos hbusy
  · exact if_pos hbusy

section
variable (hd : (s.drawer d).state = .empty)
include hd

theorem drawerLoadAt_of_noPlate (hc : slotCode code = .next) (hq : s.dryerQ = []) :
    drawerLoadAt code s d = refuse .queueEmpty s := by
  simp [drawerLoadAt, hc, hd, hq]

theorem drawerLoadAt_of_other (hc : slotCode code = .named i) (hi : (s.plate i).state ≠ .washed) :
    drawerLoadAt code s d = refuse .badState s := by
  simp [drawerLoadAt, hc, hd, hi]

/-- The head of the wait list or a washed plate is taken, by way of the code for the head or the plate's own. -/
theorem drawerLoadAt_of_taken
    (hi : code = 0xFF ∧ before = [] ∨ code.toNat = i.val ∧ (s.plate i).state = .washed)
    (hq : s.dryerQ = before ++ i :: after) : drawerLoadAt code s d = s.loadDrawer d i := by
  rcases hi with ⟨rfl, rfl⟩ | ⟨hi, hs⟩
  · rw [drawerLoadAt, slotCode_next]
    simp [hd, hq]
  · simp [drawerLoadAt, slotCode_of_lt hi, hd, hs]

end

theorem loadDrawer_granted (hq : s.dryerQ = before ++ i :: after) (hb : i ∉ before) (ha : i ∉ after) :
    State.granted (s.loadDrawer d i) .D
      = (State.modDrawer { s.modPlate i fun p => { p with state := .drying, drawer := some d } with
            dryerQ := before ++ after } d fun _ => ⟨.drying, some i, (s.plate i).dryRemaining⟩).replied .D 0x00
          (nameOf i :: word2 (s.plate i).dryRemaining) := by
  have hleave : s.leaveList .dryer i = { s with dryerQ := before ++ after } := State.leaveList_of_split hq hb ha
  rw [State.loadDrawer, State.granted_mk, hleave, beBytes_two]
  rfl

/-! ### DRAWER_OPEN and DRAWER_CLOSE (R147, R148) -/

theorem drawerOpenAt_of_drying (h : (s.drawer d).state = .drying) :
    drawerOpenAt s d = (s.modDrawer d fun k => { k with state := .opened }, Reply.just .ok) := by
  simp only [drawerOpenAt, h]

theorem drawerOpenAt_of_open (h : (s.drawer d).state = .opened ∨ (s.drawer d).state = .dry) :
    drawerOpenAt s d = (s, Reply.just .ok) := by
  rcases h with h | h <;> simp only [drawerOpenAt, h]

theorem drawerOpenAt_of_empty (h : (s.drawer d).state = .empty) : drawerOpenAt s d = refuse .drawerEmpty s := by
  simp only [drawerOpenAt, h]

theorem drawerCloseAt_of_opened (h : (s.drawer d).state = .opened) :
    drawerCloseAt s d = (s.modDrawer d fun k => { k with state := .drying }, Reply.just .ok) := by
  simp only [drawerCloseAt, h]

theorem drawerCloseAt_of_closed (h : (s.drawer d).state ≠ .opened) : drawerCloseAt s d = (s, Reply.just .ok) := by
  unfold drawerCloseAt
  split
  next ho => exact absurd ho h
  all_goals rfl

/-- Settles O45, command by command and by the state of the drawer. -/
theorem drawersAreLoadedOpenedAndClosed : Obligations.DrawersAreLoadedOpenedAndClosed := by
  refine ⟨fun s b hb => ⟨fun code hg => ?_, fun hg => ?_, fun hg => ?_⟩, fun s b code d hb hg => ?_,
    fun s b d hb hg => ?_, fun s b d hb hg => ?_⟩
  · rw [exec_drawerLoad b code hg, viaDrawer_of_gt _ _ hb]; rfl
  · rw [exec_drawerOpen b hg, viaDrawer_of_gt _ _ hb]; rfl
  · rw [exec_drawerClose b hg, viaDrawer_of_gt _ _ hb]; rfl
  · rw [exec_drawerLoad b code hg, viaDrawer_of_lt _ _ hb]
    refine ⟨fun hc hn => ?_, fun hc => ⟨fun hd => ?_, fun hd => ⟨?_, fun i hi hs => ?_, ?_⟩⟩⟩
    · rw [drawerLoadAt_of_bad (slotCode_of_gt hc hn)]; rfl
    · rw [drawerLoadAt_of_busy (slotCode_ne_bad hc) hd]; rfl
    · rintro rfl hq
      rw [drawerLoadAt_of_noPlate hd slotCode_next hq]; rfl
    · rw [drawerLoadAt_of_other hd (slotCode_of_lt hi) hs]; rfl
    · intro i before after hi hq hb ha
      rw [drawerLoadAt_of_taken hd hi hq, loadDrawer_granted hq hb ha]
  · rw [exec_drawerOpen b hg, viaDrawer_of_lt _ _ hb]
    refine ⟨fun h => ?_, fun h => ?_, fun h => ?_⟩
    · rw [drawerOpenAt_of_drying h]; rfl
    · rw [drawerOpenAt_of_open h]; rfl
    · rw [drawerOpenAt_of_empty h]; rfl
  · rw [exec_drawerClose b hg, viaDrawer_of_lt _ _ hb]
    refine ⟨fun h => ?_, fun h => ?_⟩
    · rw [drawerCloseAt_of_opened h]; rfl
    · rw [drawerCloseAt_of_closed h]; rfl

end

end Sys2Proof.Machine
end

section
/-! FINISH_LOAD (R151, R155, R156): the plate that is taken, and the drawer that references it. -/

namespace Sys2Proof.Machine

section
variable {s : State} {b : Byte} {d : DrawerIx} {i : Slot} {before after : List Slot}

/-! ### The drawer that references the plate (R151) -/

theorem dryDrawerOf_of_none (h : ∀ e, (s.drawer e).slot ≠ some i) : s.dryDrawerOf i = none :=
  List.find?_eq_none.mpr fun e _ => by simp [h e]

theorem dryDrawerOf_of_unique (hd : (s.drawer d).state = .dry) (hi : (s.drawer d).slot = some i)
    (hn : ∀ e, e ≠ d → (s.drawer e).slot ≠ some i) : s.dryDrawerOf i = some d := by
  have hfound : (s.dryDrawerOf i).isSome = true :=
    List.find?_isSome.mpr ⟨d, List.mem_finRange d, by simp [hd, hi]⟩
  obtain ⟨e, he⟩ := Option.isSome_iff_exists.mp hfound
  have href : (s.drawer e).state = .dry ∧ (s.drawer e).slot = some i := by
    simpa only [Bool.and_eq_true, beq_iff_eq] using List.find?_some he
  rw [he, not_imp_not.mp (hn e) href.2]

/-! ### The plate is put in the position (R156) -/

theorem leaveFinisher_of_split (hq : s.finisherQ = before ++ i :: after) (hb : i ∉ before) (ha : i ∉ after) :
    s.leaveList .finisher i = { s with finisherQ := before ++ after } :=
  State.leaveList_of_split (l := .finisher) hq hb ha

theorem loadFinisher_granted_of_none (hq : s.finisherQ = before ++ i :: after) (hb : i ∉ before) (ha : i ∉ after)
    (hn : s.dryDrawerOf i = none) :
    State.granted (s.loadFinisher i) .D
      = State.replied { s.modPlate i fun p => { p with state := .finishing } with
          finisherQ := before ++ after
          finisher := ⟨.loaded, some i, false, false⟩ } .D 0x00 [nameOf i, 0xFF] := by
  have hclear : State.clearReference { s with finisherQ := before ++ after } i
      = { s with finisherQ := before ++ after } := by
    rw [State.clearReference, show State.dryDrawerOf { s with finisherQ := before ++ after } i = none from hn]
  rw [State.loadFinisher, State.granted_mk, leaveFinisher_of_split hq hb ha, hclear, hn]
  rfl

theorem loadFinisher_granted_of_drawer (hq : s.finisherQ = before ++ i :: after) (hb : i ∉ before) (ha : i ∉ after)
    (hd : s.dryDrawerOf i = some d) :
    State.granted (s.loadFinisher i) .D
      = (State.modDrawer { s.modPlate i fun p => { p with state := .finishing, drawer := none } with
            finisherQ := before ++ after
            finisher := ⟨.loaded, some i, false, false⟩ } d fun _ => ⟨.empty, none, 0⟩).replied .D 0x00
          [nameOf i, BitVec.ofNat 8 d.val] := by
  have hclear : State.clearReference { s with finisherQ := before ++ after } i
      = State.emptyDrawer { s with finisherQ := before ++ after } d i := by
    rw [State.clearReference, show State.dryDrawerOf { s with finisherQ := before ++ after } i = some d from hd]
  have hplate := s.modPlate_modPlate i (fun p => { p with drawer := none }) fun p => p.inState .finishing
  rw [State.loadFinisher, State.granted_mk, leaveFinisher_of_split hq hb ha, hclear, hd]
  exact congrArg (fun t : State => (State.modDrawer { t with
    finisherQ := before ++ after
    finisher := ⟨.loaded, some i, false, false⟩ } d fun _ => ⟨.empty, none, 0⟩).replied .D 0x00
      [nameOf i, BitVec.ofNat 8 d.val]) hplate

/-! ### The checks (R156) -/

theorem finishLoadEffect_of_bad (hc : slotCode b = .bad) : finishLoadEffect b s = refuse .badSlot s := by
  rw [finishLoadEffect, hc]

theorem finishLoadEffect_of_busy (hc : slotCode b ≠ .bad) (hf : s.finisher.state ≠ .empty) :
    finishLoadEffect b s = refuse .busy s := by
  have hbusy : (s.finisher.state != .empty) = true := bne_iff_ne.mpr hf
  unfold finishLoadEffect
  split
  next h => exact absurd h hc
  · exact if_pos hbusy
  · exact if_pos hbusy

section
variable (hf : s.finisher.state = .empty)
include hf

theorem finishLoadEffect_of_noPlate (hc : slotCode b = .next) (hq : s.finisherQ = []) :
    finishLoadEffect b s = refuse .queueEmpty s := by
  simp [finishLoadEffect, hc, hf, hq]

theorem finishLoadEffect_of_other (hc : slotCode b = .named i) (hi : (s.plate i).state ≠ .dried) :
    finishLoadEffect b s = refuse .badState s := by
  simp [finishLoadEffect, hc, hf, hi]

/-- The head of the wait list or a dried plate is taken, by way of the code for the head or the plate's own. -/
theorem finishLoadEffect_of_taken (hi : b = 0xFF ∧ before = [] ∨ b.toNat = i.val ∧ (s.plate i).state = .dried)
    (hq : s.finisherQ = before ++ i :: after) : finishLoadEffect b s = s.loadFinisher i := by
  rcases hi with ⟨rfl, rfl⟩ | ⟨hi, hs⟩
  · rw [finishLoadEffect, slotCode_next]
    simp [hf, hq]
  · simp [finishLoadEffect, slotCode_of_lt hi, hf, hs]

end

/-- Settles O47: the checks in order, then the plate with no drawer and with its DRY drawer. -/
theorem finishLoadFillsThePosition : Obligations.FinishLoadFillsThePosition := by
  intro s b hg
  rw [exec_finishLoad b hg]
  refine ⟨fun hc hn => ?_, fun hc => ⟨fun hf => ?_, fun hf => ⟨?_, fun i hi hs => ?_, ?_⟩⟩⟩
  · rw [finishLoadEffect_of_bad (slotCode_of_gt hc hn)]; rfl
  · rw [finishLoadEffect_of_busy (slotCode_ne_bad hc) hf]; rfl
  · rintro rfl hq
    rw [finishLoadEffect_of_noPlate hf slotCode_next hq]; rfl
  · rw [finishLoadEffect_of_other hf (slotCode_of_lt hi) hs]; rfl
  · intro i before after hi hq hb ha
    rw [finishLoadEffect_of_taken hf hi hq]
    refine ⟨fun hn => ?_, fun d hd href hn => ?_⟩
    · rw [loadFinisher_granted_of_none hq hb ha (dryDrawerOf_of_none hn)]
    · rw [loadFinisher_granted_of_drawer hq hb ha (dryDrawerOf_of_unique hd href hn)]

end

end Sys2Proof.Machine
end

/-! The attention state of a port: what each of its operations does, that each keeps it as chapter 10 gives it
(`AttentionOk`), and the statements on arrivals, on the attention commands and on the pins. -/

namespace Sys2Proof.Machine

/-! ### Eligible classes and the output pins (R103, R168, R182) -/

theorem EventClass.rank_lt (c : EventClass) : c.rank < 9 := by cases c <;> decide

theorem Attention.eligibleClass_iff (a : Attention) (c : EventClass) :
    a.eligibleClass c = true ↔ ∀ n ≤ c.rank, a.inService.getLsbD n = false := by
  simp [Attention.eligibleClass]

/-- A class is eligible when every class in service has a greater number. -/
theorem Attention.eligibleClass_iff_outranks (a : Attention) (c : EventClass) :
    a.eligibleClass c = true ↔ ∀ n < 9, a.inService.getLsbD n = true → c.rank < n := by
  rw [a.eligibleClass_iff]
  constructor
  · intro h n _ hn
    by_contra hle
    rw [h n (Nat.le_of_not_lt hle)] at hn
    cases hn
  · intro h n hle
    by_contra hn
    exact absurd (h n (hle.trans_lt c.rank_lt) (by simpa using hn)) (Nat.not_lt.mpr hle)

/-- A class at least as high as an eligible one is eligible. -/
theorem Attention.eligibleClass_of_rank_le {a : Attention} {c d : EventClass} (h : a.eligibleClass d = true)
    (hcd : c.rank ≤ d.rank) : a.eligibleClass c = true :=
  (a.eligibleClass_iff c).mpr fun n hn => (a.eligibleClass_iff d).mp h n (hn.trans hcd)

/-- Settles O17, pin by pin. -/
theorem atnFollowsEligibility : Obligations.AtnFollowsEligibility := by
  refine ⟨fun s p => ?atn, fun s c => ?stop, fun s p => ?dataOut⟩
  case atn =>
    simp only [← Attention.eligibleClass_iff_outranks]
    simp [State.atn, Attention.atn, and_comm]
  case stop =>
    cases h : (s.chan c).state <;> simp [State.stopAsserted, Channel.stopAsserted, ChanState.isActive, h]
  case dataOut => simp [State.dataOutDriven]

/-! ### Placing an entry, and dropping one (R167) -/

/-- An entry is placed where the classes above it end. -/
theorem placeEntry_of_split {x : Entry} {before after : List Entry} (hb : ∀ y ∈ before, y.cls.rank ≤ x.cls.rank)
    (ha : ∀ y ∈ after, x.cls.rank < y.cls.rank) : placeEntry x (before ++ after) = before ++ x :: after := by
  have hpos : ∀ y ∈ before, decide (y.cls.rank ≤ x.cls.rank) = true := by simpa using hb
  unfold placeEntry
  rw [List.takeWhile_append_of_pos hpos, List.dropWhile_append_of_pos hpos]
  cases after with
  | nil => simp
  | cons y l => simp [ha y (List.mem_cons_self ..)]

/-- A queue in priority order is the entries of a class or higher, and then those that are lower. -/
theorem exists_split_of_ordered {q : List Entry} (h : q.Pairwise fun x y => x.cls.rank ≤ y.cls.rank) (r : Nat) :
    ∃ before after, q = before ++ after ∧ (∀ y ∈ before, y.cls.rank ≤ r) ∧ ∀ y ∈ after, r < y.cls.rank := by
  induction q with
  | nil => exact ⟨[], [], by simp⟩
  | cons x q ih =>
    obtain ⟨hx, hq⟩ := List.pairwise_cons.mp h
    by_cases hr : x.cls.rank ≤ r
    · obtain ⟨before, after, rfl, hb, ha⟩ := ih hq
      exact ⟨x :: before, after, rfl, by simpa using ⟨hr, hb⟩, ha⟩
    · have hr : r < x.cls.rank := Nat.lt_of_not_le hr
      exact ⟨[], x :: q, rfl, by simp, by simpa using ⟨hr, fun y hy => hr.trans_le (hx y hy)⟩⟩

/-- The last element of a kind goes, and the rest stays. -/
theorem eraseLast_of_split {α : Type} {p : α → Bool} {pre post : List α} {d : α} (hd : p d = true)
    (hpost : ∀ x ∈ post, p x = false) : eraseLast p (pre ++ d :: post) = pre ++ post := by
  have hnone : post.any p = false := by simpa using hpost
  induction pre with
  | nil => simp [eraseLast, hnone, hd]
  | cons x pre ih => simp [eraseLast, hd, ih]

theorem exists_last_of_any {α : Type} {p : α → Bool} {l : List α} (h : l.any p = true) :
    ∃ pre d post, l = pre ++ d :: post ∧ p d = true ∧ ∀ x ∈ post, p x = false := by
  induction l with
  | nil => simp at h
  | cons x l ih =>
    by_cases hl : l.any p = true
    · obtain ⟨pre, d, post, rfl, hd⟩ := ih hl
      exact ⟨x :: pre, d, post, rfl, hd⟩
    · have hx : p x = true := by simpa [hl] using h
      exact ⟨[], x, l, rfl, hx, by simpa using hl⟩

theorem Attention.unfrozen_iff (a : Attention) (x : Entry) : a.unfrozen x = true ↔ a.frozen ≠ some x.key := by
  simp [Attention.unfrozen]

/-- The lowest class that is not frozen is that of an entry, and no such entry is lower. -/
theorem Attention.lowestUnfrozen_eq_some_iff (a : Attention) (r : Nat) : a.lowestUnfrozen = some r ↔
    (∃ x ∈ a.queue, a.frozen ≠ some x.key ∧ x.cls.rank = r)
      ∧ ∀ x ∈ a.queue, a.frozen ≠ some x.key → x.cls.rank ≤ r := by
  simp only [Attention.lowestUnfrozen, List.max?_eq_some_iff, List.mem_map, List.mem_filter, a.unfrozen_iff, and_assoc,
    forall_exists_index, and_imp]
  exact and_congr_right fun _ => ⟨fun h x hx hf => h _ x hx hf rfl, fun h _ x hx hf e => e ▸ h x hx hf⟩

/-! ### What an arrival does (R166, R167) -/

theorem Entry.key_ne_iff (x : Entry) (e : Event) : x.key ≠ e.key ↔ (x.cls = e.cls → x.slot ≠ e.slot) := by
  simp [Entry.key, Event.key]

theorem AttentionOk.key_ne_of_split {a : Attention} {pre post : List Entry} {x : Entry} (h : AttentionOk a)
    (hq : a.queue = pre ++ x :: post) : (∀ y ∈ pre, y.key ≠ x.key) ∧ ∀ y ∈ post, y.key ≠ x.key := by
  have hd := h.distinct
  rw [hq, List.pairwise_append, List.pairwise_cons] at hd
  obtain ⟨-, ⟨hpost, -⟩, hpre⟩ := hd
  exact ⟨fun y hy => hpre y hy x (List.mem_cons_self ..), fun y hy => (hpost y hy).symm⟩

/-- Settles O18: the arrival finds an entry of its key, and no other entry has that key. -/
theorem arrivalMerges : Obligations.ArrivalMerges := by
  intro a e pre post x hok hq hcls hslot
  have hkey : x.key = e.key := by simp [Entry.key, Event.key, hcls, hslot]
  have hx : x ∈ a.queue := by simp [hq]
  have keep (l : List Entry) (hl : ∀ y ∈ l, y.key ≠ x.key) :
      l.map (fun y => if y.key == e.key then y.merge e else y) = l := by
    rw [List.map_congr_left (g := id) fun y hy => by simp [← hkey, hl y hy], List.map_id]
  obtain ⟨hpre, hpost⟩ := hok.key_ne_of_split hq
  have hcount : min 15 (x.recurrence + 1) = if x.recurrence < 15 then x.recurrence + 1 else 15 := by
    split <;> omega
  rcases a.arrive_cases e with ⟨-, h⟩ | ⟨hn, -⟩ | ⟨hn, -⟩ | ⟨hn, -⟩
  · rw [h, hq, List.map_append, List.map_cons, keep pre hpre, keep post hpost]
    simp [hkey, Entry.merge, hcount]
  all_goals exact absurd hkey (hn x hx)

/-- Settles O19: the new entry is placed, and a post is that arrival alone. -/
theorem arrivalIsPlacedByClass : Obligations.ArrivalIsPlacedByClass := by
  refine ⟨fun a e before after _ hn hlen hq hb ha => ?placed, fun s p e => ?posted⟩
  case placed =>
    rcases a.arrive_cases e with ⟨⟨x, hx, hk⟩, -⟩ | ⟨-, -, h⟩ | ⟨-, hlen', -⟩ | ⟨-, hlen', -⟩
    · exact absurd hk ((x.key_ne_iff e).mpr (hn x hx))
    · rw [h, hq, placeEntry_of_split hb ha]; rfl
    · omega
    · omega
  case posted =>
    exact ⟨⟨_, rfl⟩, State.port_modPort_self .., fun q hq => State.port_modPort_ne _ _ hq⟩

/-- Settles O20: the lowest class that is not frozen is that of the entry which gives way, or is not lower than the
arrival's. -/
theorem arrivalAtAFullQueue : Obligations.ArrivalAtAFullQueue := by
  intro a e hok hlen hn
  have hn : ∀ x ∈ a.queue, x.key ≠ e.key := fun x hx => (x.key_ne_iff e).mpr (hn x hx)
  refine ⟨fun pre d post before after hq hd hlt hpre hpost hsplit hb ha => ?replaced, fun hall => ?dropped⟩
  case replaced =>
    have hlow : a.lowestUnfrozen = some d.cls.rank := by
      refine (a.lowestUnfrozen_eq_some_iff _).mpr ⟨⟨d, by simp [hq], hd, rfl⟩, fun x hx hxf => ?_⟩
      rw [hq, List.mem_append, List.mem_cons] at hx
      rcases hx with hx | rfl | hx
      · exact hpre x hx hxf
      · exact le_rfl
      · exact (hpost x hx hxf).le
    have herase : eraseLast (fun x => a.unfrozen x && x.cls.rank == d.cls.rank) a.queue = before ++ after := by
      rw [hq, eraseLast_of_split (by simpa [a.unfrozen_iff] using hd), hsplit]
      intro x hx
      by_contra h
      obtain ⟨hxf, hr⟩ : a.frozen ≠ some x.key ∧ x.cls.rank = d.cls.rank := by simpa [a.unfrozen_iff] using h
      exact (hpost x hx hxf).ne hr
    rcases a.arrive_cases e with ⟨⟨x, hx, hk⟩, -⟩ | ⟨-, hroom, -⟩ | ⟨-, -, r, hr, -, h⟩ | ⟨-, -, hle, -⟩
    · exact absurd hk (hn x hx)
    · omega
    · obtain rfl : d.cls.rank = r := Option.some.inj (hlow.symm.trans hr)
      rw [h, herase, placeEntry_of_split hb ha]; rfl
    · exact absurd (hle _ hlow) (Nat.not_le.mpr hlt)
  case dropped =>
    rcases a.arrive_cases e with ⟨⟨x, hx, hk⟩, -⟩ | ⟨-, hroom, -⟩ | ⟨-, -, r, hr, hlt, -⟩ | ⟨-, -, -, h⟩
    · exact absurd hk (hn x hx)
    · omega
    · obtain ⟨⟨x, hx, hxf, rfl⟩, -⟩ := (a.lowestUnfrozen_eq_some_iff r).mp hr
      exact absurd (hall x hx hxf) (Nat.not_le.mpr hlt)
    · exact h

/-! ### The attention commands (R169 to R171) -/

theorem AttentionOk.entryOf_key {a : Attention} {x : Entry} (h : AttentionOk a) (hx : x ∈ a.queue) :
    a.entryOf x.key = some x := by
  obtain ⟨pre, post, hq⟩ := List.append_of_mem hx
  have hpre : ∀ y ∈ pre, y.key ≠ x.key := (h.key_ne_of_split hq).1
  rw [Attention.entryOf, List.find?_eq_some_iff_append]
  exact ⟨by simp, pre, post, hq, by simpa using hpre⟩

theorem Attention.frozenEntry_of_none {a : Attention} (h : a.frozen = none) : a.frozenEntry = none := by
  simp [Attention.frozenEntry, h]

theorem AttentionOk.frozenEntry_of_frozen {a : Attention} {x : Entry} (h : AttentionOk a) (hx : x ∈ a.queue)
    (hf : a.frozen = some x.key) : a.frozenEntry = some x := by
  simp [Attention.frozenEntry, hf, h.entryOf_key hx]

theorem Attention.mem_of_frozenEntry {a : Attention} {x : Entry} (h : a.frozenEntry = some x) : x ∈ a.queue := by
  unfold Attention.frozenEntry at h
  split at h
  · exact List.mem_of_find?_eq_some h
  · cases h

theorem Entry.identifier_eq_eventBytes (x : Entry) : x.identifier = eventBytes x := by
  unfold Entry.identifier eventBytes
  cases x.slot <;> rfl

theorem Attention.freeze_of_frozenEntry {a : Attention} {x : Entry} (h : a.frozenEntry = some x) :
    a.freeze = (a, ⟨.ok, eventBytes x⟩) := by
  simp [Attention.freeze, h, x.identifier_eq_eventBytes]

theorem Attention.freeze_of_eligible {a : Attention} {x : Entry} {rest : List Entry} (hf : a.frozen = none)
    (hq : a.queue = x :: rest) (hx : a.eligibleClass x.cls = true) :
    a.freeze = ({ a with frozen := some x.key }, ⟨.ok, eventBytes x⟩) := by
  simp [Attention.freeze, Attention.frozenEntry_of_none hf, hq, hx, x.identifier_eq_eventBytes]

theorem Attention.freeze_of_none {a : Attention} (hf : a.frozen = none)
    (h : ∀ x ∈ a.queue, a.eligibleClass x.cls = false) : a.freeze = (a, Reply.just .none) := by
  cases hq : a.queue with
  | nil => simp [Attention.freeze, Attention.frozenEntry_of_none hf, hq]
  | cons x rest => simp [Attention.freeze, Attention.frozenEntry_of_none hf, hq, h x (by simp [hq])]

theorem Attention.take_of_frozenEntry {a : Attention} {x : Entry} (h : a.frozenEntry = some x) :
    a.take = ({ a with
      queue := a.queue.filter fun y => y.key != x.key
      frozen := none
      inService := a.inService ||| BitVec.twoPow 9 x.cls.rank }, ⟨.ok, eventBytes x⟩) := by
  simp [Attention.take, h, x.identifier_eq_eventBytes]

theorem Attention.take_of_none {a : Attention} (h : a.frozenEntry = none) : a.take = (a, Reply.just .notFrozen) := by
  simp [Attention.take, h]

/-- The highest class in service is in service, and none above it is. -/
theorem Attention.topInService_eq_some_iff (a : Attention) (n : Nat) : a.topInService = some n ↔
    n < 9 ∧ a.inService.getLsbD n = true ∧ ∀ m < n, a.inService.getLsbD m = false := by
  simp [Attention.topInService, and_left_comm]

theorem Attention.topInService_eq_none_iff (a : Attention) :
    a.topInService = none ↔ ∀ n < 9, a.inService.getLsbD n = false := by
  simp [Attention.topInService]

theorem Attention.done_of_some {a : Attention} {n : Nat} (h : a.topInService = some n) :
    a.done = ({ a with inService := a.inService &&& ~~~BitVec.twoPow 9 n }, ⟨.ok, [BitVec.ofNat 8 n]⟩) := by
  simp [Attention.done, h, byte1]

theorem Attention.done_of_none {a : Attention} (h : a.topInService = none) : a.done = (a, Reply.just .none) := by
  simp [Attention.done, h]

theorem getLsbD_or_twoPow {n : Nat} (v : BitVec 9) (m : Nat) (hn : n < 9) :
    (v ||| BitVec.twoPow 9 n).getLsbD m = (v.getLsbD m || m == n) := by
  rw [BitVec.getLsbD_or, BitVec.getLsbD_twoPow]
  congr 1
  rw [Bool.eq_iff_iff]
  simp; omega

theorem getLsbD_and_not_twoPow (v : BitVec 9) (m n : Nat) :
    (v &&& ~~~BitVec.twoPow 9 n).getLsbD m = (v.getLsbD m && m != n) := by
  rw [BitVec.getLsbD_and, BitVec.getLsbD_not, BitVec.getLsbD_twoPow]
  by_cases hm : m < 9
  · rw [Bool.eq_iff_iff]; simp [hm]; omega
  · simp [BitVec.getLsbD_of_ge v m (Nat.le_of_not_lt hm)]

/-- The row of an attention command changes its port's attention state, and forms the reply, as its last byte
arrives. -/
theorem lastByte_viaAttention {s : State} {p : Port} {bytes : List Byte} {f : Attention → Attention × Reply}
    {a : Attention} {r : Reply} (h : s.completes p bytes = true) (hf : f (s.port p).attn = (a, r)) :
    lastByte p bytes (fun q => q.actAtOnce fun q => q.viaAttention f) s
      = s.answeredAtOnce p (bytes.getLastD 0) { s.port p with attn := a } r.result.code r.data := by
  rw [lastByte_of_completes _ h]
  refine State.modPort_congr ?_
  simp only [PortRec.actAtOnce, PortRec.viaAttention, PortRec.answer, PortRec.clocked_attn, hf]
  rfl

/-- Settles O14: the frozen entry is the one of its key, and the first entry of a queue in priority order is eligible
when any entry is. -/
theorem freezeSelectsTheFirstEligible : Obligations.FreezeSelectsTheFirstEligible := by
  intro s p hdue hok
  have hdue : s.completes p (frameBytes (.evtFreeze p)) = true := by simpa [LastByteDue, commandPort] using hdue
  refine ⟨fun x hx hf => ?again, fun x rest hf hq hy => ?first, fun hf hn => ?none⟩
  case again =>
    exact congrArg _ (lastByte_viaAttention hdue (Attention.freeze_of_frozenEntry (hok.frozenEntry_of_frozen hx hf)))
  case first =>
    obtain ⟨y, hy, he⟩ := hy
    have hord := hok.ordered
    rw [hq, List.pairwise_cons] at hord
    rw [hq, List.mem_cons] at hy
    have hle : x.cls.rank ≤ y.cls.rank := hy.elim (fun e => e ▸ le_rfl) (hord.1 y)
    exact congrArg _ (lastByte_viaAttention hdue
      (Attention.freeze_of_eligible hf hq (Attention.eligibleClass_of_rank_le he hle)))
  case none => exact congrArg _ (lastByte_viaAttention hdue (Attention.freeze_of_none hf hn))

/-- Settles O15: no other entry has the key of the one taken. -/
theorem takeRemovesTheFrozenEntry : Obligations.TakeRemovesTheFrozenEntry := by
  intro s p hdue hok
  have hdue : s.completes p (frameBytes (.evtTake p)) = true := by simpa [LastByteDue, commandPort] using hdue
  refine ⟨fun pre x post hq hf => ⟨_, fun n => getLsbD_or_twoPow _ n x.cls.rank_lt, ?taken⟩, fun hf => ?none⟩
  case taken =>
    obtain ⟨hpre, hpost⟩ := hok.key_ne_of_split hq
    have keep (l : List Entry) (hl : ∀ y ∈ l, y.key ≠ x.key) : l.filter (fun y => y.key != x.key) = l :=
      List.filter_eq_self.mpr fun y hy => by simpa using hl y hy
    have hfilter : (s.port p).attn.queue.filter (fun y => y.key != x.key) = pre ++ post := by
      simp [hq, keep pre hpre, keep post hpost]
    have ht := Attention.take_of_frozenEntry (hok.frozenEntry_of_frozen (by simp [hq]) hf)
    rw [hfilter] at ht
    exact congrArg _ (lastByte_viaAttention hdue ht)
  case none =>
    exact congrArg _ (lastByte_viaAttention hdue (Attention.take_of_none (Attention.frozenEntry_of_none hf)))

/-- Settles O16, by what the highest class in service is. -/
theorem doneRemovesTheTopClass : Obligations.DoneRemovesTheTopClass := by
  intro s p hdue
  have hdue : s.completes p (frameBytes (.evtDone p)) = true := by simpa [LastByteDue, commandPort] using hdue
  refine ⟨fun n hn hbit hlow => ⟨_, fun m => getLsbD_and_not_twoPow _ m n, ?removed⟩, fun h => ?none⟩
  case removed =>
    have htop := ((s.port p).attn.topInService_eq_some_iff n).mpr ⟨hn, hbit, hlow⟩
    exact congrArg _ (lastByte_viaAttention hdue (Attention.done_of_some htop))
  case none =>
    have htop := (s.port p).attn.topInService_eq_none_iff.mpr h
    exact congrArg _ (lastByte_viaAttention hdue (Attention.done_of_none htop))

end Sys2Proof.Machine

/-! Every operation of a port's attention state keeps it as chapter 10 gives it (`AttentionOk`), and whatever a deed tells
the ports is such operations: events that arrive. With the rows of the ports this settles O55. -/

namespace Sys2Proof.Machine

/-! ### Arrivals keep an attention state in order (R164, R166, R167) -/

theorem AttentionOk.setOverrun {a : Attention} (h : AttentionOk a) (b : Bool) : AttentionOk { a with overrun := b } :=
  ⟨h.ordered, h.distinct, h.length, h.fields, h.frozen⟩

/-- A queue that loses entries, but not the frozen one, is still in order. -/
theorem AttentionOk.of_sublist {a b : Attention} (h : AttentionOk a) (hq : b.queue.Sublist a.queue)
    (hf : ∀ k ∈ b.frozen, ∃ x ∈ b.queue, x.key = k ∧ b.eligibleClass x.cls = true) : AttentionOk b :=
  ⟨h.ordered.sublist hq, h.distinct.sublist hq, hq.length_le.trans h.length, fun x hx => h.fields x (hq.subset hx), hf⟩

/-- An entry merged into has its key and its class, and a count of at most 15. -/
theorem AttentionOk.merge {a : Attention} {e : Event} (h : AttentionOk a) (he : e.param ≤ 255) :
    AttentionOk { a with queue := a.queue.map fun x => if x.key == e.key then x.merge e else x } := by
  have hcls (x : Entry) : (if x.key == e.key then x.merge e else x).cls = x.cls := by split <;> rfl
  have hkey (x : Entry) : (if x.key == e.key then x.merge e else x).key = x.key := by split <;> rfl
  refine ⟨?ordered, ?distinct, ?length, ?fields, ?frozen⟩
  case ordered => simpa only [List.pairwise_map, hcls] using h.ordered
  case distinct => simpa only [List.pairwise_map, hkey] using h.distinct
  case length => simpa using h.length
  case fields =>
    intro y hy
    obtain ⟨x, hx, rfl⟩ := List.mem_map.mp hy
    split
    · exact ⟨Nat.min_le_left .., he⟩
    · exact h.fields x hx
  case frozen =>
    intro k hk
    obtain ⟨x, hx, hxk, hel⟩ := h.frozen k hk
    exact ⟨_, List.mem_map_of_mem hx, (hkey x).trans hxk, (hcls x).symm ▸ hel⟩

/-- An element put into a list that stands in a relation to what comes before it and to what comes after it. -/
theorem pairwise_insert {α : Type} {R : α → α → Prop} {x : α} {before after : List α}
    (h : (before ++ after).Pairwise R) (hb : ∀ y ∈ before, R y x) (ha : ∀ y ∈ after, R x y) :
    (before ++ x :: after).Pairwise R := by
  obtain ⟨hbefore, hafter, hacross⟩ := List.pairwise_append.mp h
  refine List.pairwise_append.mpr ⟨hbefore, List.pairwise_cons.mpr ⟨ha, hafter⟩, fun y hy z hz => ?_⟩
  exact (List.mem_cons.mp hz).elim (fun e => e ▸ hb y hy) (hacross y hy z)

/-- An entry of a new key, placed by its class in a queue with room. -/
theorem AttentionOk.place {a : Attention} {x : Entry} (h : AttentionOk a) (hx : x.recurrence ≤ 15 ∧ x.param ≤ 255)
    (hn : ∀ y ∈ a.queue, y.key ≠ x.key) (hroom : a.queue.length < 16) :
    AttentionOk { a with queue := placeEntry x a.queue } := by
  obtain ⟨before, after, hq, hb, ha⟩ := exists_split_of_ordered h.ordered x.cls.rank
  have hplace : placeEntry x a.queue = before ++ x :: after := by rw [hq, placeEntry_of_split hb ha]
  refine ⟨?ordered, ?distinct, ?length, ?fields, ?frozen⟩
  case ordered => exact hplace ▸ pairwise_insert (hq ▸ h.ordered) hb fun y hy => (ha y hy).le
  case distinct =>
    exact hplace ▸ pairwise_insert (hq ▸ h.distinct) (fun y hy => hn y (by simp [hq, hy]))
      fun y hy => (hn y (by simp [hq, hy])).symm
  case length => rw [length_placeEntry]; exact hroom
  case fields => exact fun y hy => ((mem_placeEntry x y _).mp hy).elim (fun e => e ▸ hx) (h.fields y)
  case frozen =>
    intro k hk
    obtain ⟨y, hy, hyk⟩ := h.frozen k hk
    exact ⟨y, (mem_placeEntry x y _).mpr (.inr hy), hyk⟩

/-- A full queue drops an entry that is not frozen, and has room then. -/
theorem AttentionOk.drop {a : Attention} {r : Nat} (h : AttentionOk a) (hr : a.lowestUnfrozen = some r) :
    AttentionOk { a with queue := eraseLast (fun x => a.unfrozen x && x.cls.rank == r) a.queue }
      ∧ (eraseLast (fun x => a.unfrozen x && x.cls.rank == r) a.queue).length < 16
      ∧ (eraseLast (fun x => a.unfrozen x && x.cls.rank == r) a.queue).Sublist a.queue := by
  obtain ⟨⟨x, hx, hxf, hxr⟩, -⟩ := (a.lowestUnfrozen_eq_some_iff r).mp hr
  have hany : a.queue.any (fun x => a.unfrozen x && x.cls.rank == r) = true :=
    List.any_eq_true.mpr ⟨x, hx, by simp [(a.unfrozen_iff x).mpr hxf, hxr]⟩
  obtain ⟨pre, d, post, hq, hd, hpost⟩ := exists_last_of_any hany
  have hdf : a.frozen ≠ some d.key := (a.unfrozen_iff d).mp (Bool.and_eq_true_iff.mp hd).1
  have hsub : (pre ++ post).Sublist a.queue := hq ▸ (List.sublist_cons_self d post).append_left pre
  have hlen : (pre ++ post).length < 16 := by
    have := h.length
    simp only [hq, List.length_append, List.length_cons] at this ⊢
    omega
  rw [show eraseLast _ a.queue = pre ++ post from hq ▸ eraseLast_of_split hd hpost]
  refine ⟨h.of_sublist hsub fun k hk => ?_, hlen, hsub⟩
  obtain ⟨y, hy, hyk, hel⟩ := h.frozen k hk
  have hyd : y ≠ d := by
    rintro rfl
    exact hdf (hyk ▸ hk)
  rw [hq] at hy
  exact ⟨y, by simpa [hyd] using hy, hyk, hel⟩

theorem AttentionOk.arrive {a : Attention} {e : Event} (h : AttentionOk a) (he : e.param ≤ 255) :
    AttentionOk (a.arrive e) := by
  have hentry : e.entry.recurrence ≤ 15 ∧ e.entry.param ≤ 255 := ⟨Nat.zero_le _, he⟩
  rcases a.arrive_cases e with ⟨-, ha⟩ | ⟨hn, hroom, ha⟩ | ⟨hn, -, r, hr, -, ha⟩ | ⟨-, -, -, ha⟩
  · rw [ha]; exact h.merge he
  · rw [ha]; exact h.place hentry hn hroom
  · obtain ⟨hok, hroom, hsub⟩ := h.drop hr
    rw [ha]
    exact (hok.place hentry (fun y hy => hn y (hsub.subset hy)) hroom).setOverrun true
  · rw [ha]; exact h.setOverrun true

/-! ### The commands of a port keep it in order (R169 to R171, R181, R183) -/

theorem AttentionOk.freeze {a : Attention} (h : AttentionOk a) : AttentionOk a.freeze.1 := by
  unfold Attention.freeze
  split
  · exact h
  split
  next x rest hq =>
    split
    next hel =>
      refine h.of_sublist (List.Sublist.refl _) fun k hk => ⟨x, by simp [hq], ?_, hel⟩
      exact Option.some.inj hk
    · exact h
  · exact h

theorem AttentionOk.take {a : Attention} (h : AttentionOk a) : AttentionOk a.take.1 := by
  unfold Attention.take
  split
  · exact h.of_sublist List.filter_sublist fun k hk => by cases hk
  · exact h

/-- With fewer classes in service, the frozen entry is still eligible. -/
theorem AttentionOk.done {a : Attention} (h : AttentionOk a) : AttentionOk a.done.1 := by
  unfold Attention.done
  split
  next n _ =>
    refine h.of_sublist (List.Sublist.refl _) fun k hk => ?_
    obtain ⟨x, hx, hxk, hel⟩ := h.frozen k hk
    refine ⟨x, hx, hxk, (Attention.eligibleClass_iff _ _).mpr fun m hm => ?_⟩
    simp only [getLsbD_and_not_twoPow, (a.eligibleClass_iff _).mp hel m hm, Bool.false_and]
  · exact h

theorem PortRec.exemptEffect_attentionOk (code : Byte) {q : PortRec} (h : AttentionOk q.attn) :
    AttentionOk (exemptEffect code q).1.attn := by
  unfold exemptEffect
  split
  · exact h.setOverrun false
  · exact h.freeze
  · exact h.take
  · exact h.done
  · exact attentionOk_empty
  · exact h

theorem PortRec.acceptBytes_attentionOk (p : Port) (bytes : List Byte) {q : PortRec} (h : AttentionOk q.attn) :
    AttentionOk (q.acceptBytes p bytes).attn := by
  unfold PortRec.acceptBytes
  split
  · exact h
  split
  · exact h
  split
  · exact h
  split
  · split
    · exact h
    · exact exemptEffect_attentionOk _ h
  · exact h

theorem PortRec.shift_attentionOk (p : Port) (b : Byte) {q : PortRec} (h : AttentionOk q.attn) :
    AttentionOk (q.shift p b).attn := by
  unfold PortRec.shift
  split
  case h_2 => exact acceptBytes_attentionOk p _ h
  all_goals exact h

/-! ### What the blocks tell the ports (R165) -/

/-- The ports of t are those of s after events have arrived at them, each with a parameter that its byte carries. -/
inductive Reports (s : State) : State → Prop
  | still : Reports s s
  | quiet {t u : State} : Reports s t → u.ports = t.ports → Reports s u
  | post {t : State} (p : Port) (e : Event) : Reports s t → e.param ≤ 255 → Reports s (t.post p e)

/-- Every port's attention state is as chapter 10 keeps it. -/
def State.QueuesOk (s : State) : Prop := ∀ p, AttentionOk (s.port p).attn

theorem State.QueuesOk.of_ports {s t : State} (h : s.QueuesOk) (hp : t.ports = s.ports) : t.QueuesOk := by
  intro p
  rw [State.port, hp]
  exact h p

/-- A change of a port's record that keeps its attention state in order. -/
theorem State.QueuesOk.modPort {s : State} {p : Port} {f : PortRec → PortRec} (h : s.QueuesOk)
    (hf : AttentionOk (f (s.port p)).attn) : (s.modPort p f).QueuesOk := by
  intro q
  by_cases hq : q = p
  · subst hq; rw [State.port_modPort_self]; exact hf
  · rw [State.port_modPort_ne _ _ hq]; exact h q

theorem Reports.queuesOk {s t : State} (h : Reports s t) (hs : s.QueuesOk) : t.QueuesOk := by
  induction h with
  | still => exact hs
  | quiet _ hp ih => exact ih.of_ports hp
  | post p _ _ he ih => exact ih.modPort ((ih p).arrive he)

namespace Reports
variable {s t : State}

theorem foldl {α : Type} {f : State → α → State} (hf : ∀ u a, Reports s u → Reports s (f u a)) (l : List α)
    (h : Reports s t) : Reports s (l.foldl f t) := by
  induction l generalizing t with
  | nil => exact h
  | cons a l ih => exact ih (hf t a h)

/-! ### Records -/

theorem setWaitList (h : Reports s t) (l : WaitList) (q : List Slot) : Reports s (t.setWaitList l q) :=
  h.quiet (by simp)

theorem modPlate (h : Reports s t) (i : Slot) (f : Plate → Plate) : Reports s (t.modPlate i f) := h.quiet rfl

theorem modPlateOpt (h : Reports s t) (o : Option Slot) (f : Plate → Plate) : Reports s (t.modPlate? o f) :=
  h.quiet (by simp)

theorem modChan (h : Reports s t) (c : Chan) (f : Channel → Channel) : Reports s (t.modChan c f) := h.quiet rfl

theorem modBank (h : Reports s t) (b : Bank) (f : BankRec → BankRec) : Reports s (t.modBank b f) := h.quiet rfl

theorem modDrawer (h : Reports s t) (d : DrawerIx) (f : Drawer → Drawer) : Reports s (t.modDrawer d f) := h.quiet rfl

theorem setFrame (h : Reports s t) (v : FrameUnit) : Reports s { t with frame := v } := h.quiet rfl

theorem setFinisher (h : Reports s t) (v : Finisher) : Reports s { t with finisher := v } := h.quiet rfl

theorem setTransit (h : Reports s t) (l : List TransitEntry) : Reports s { t with transit := l } := h.quiet rfl

theorem setSolvent (h : Reports s t) (v : Solvent) : Reports s { t with solvent := v } := h.quiet rfl

/-! ### Lists and holds -/

theorem announce (h : Reports s t) (l : WaitList) (b : Bool) : Reports s (t.announce l b) := by
  cases b with
  | false => exact h
  | true => exact h.post l.port _ (by cases l <;> decide)

theorem fillList (h : Reports s t) (l : WaitList) (q : List Slot) : Reports s (t.fillList l q) :=
  (h.setWaitList l q).announce ..

theorem joinTail (h : Reports s t) (l : WaitList) (i : Slot) : Reports s (t.joinTail l i) := h.fillList ..

theorem joinReleased (h : Reports s t) (i : Slot) (dest : HeldFrom) : Reports s (t.joinReleased i dest) := by
  cases dest
  case done => exact h
  all_goals exact h.fillList ..

theorem leaveOwnList (h : Reports s t) (i : Slot) : Reports s (t.leaveOwnList i) := by
  unfold State.leaveOwnList
  split
  · exact h.setWaitList ..
  · exact h

theorem holdAtStep (h : Reports s t) (i : Slot) (reason : HoldReason) (from_ : HeldFrom) (p : Port) :
    Reports s (t.holdAtStep i reason from_ p) := by
  have hcode : reason.code ≤ 255 := by cases reason <;> decide
  exact ((h.modPlate i _).post .P _ hcode).post p _ hcode

/-! ### The solvent account -/

theorem postSolvent (h : Reports s t) {n : Nat} (hn : n ≤ 255) : Reports s (t.postSolvent n) :=
  (h.post .P _ hn).post .W _ hn

theorem evaluateWarn (h : Reports s t) (l : Nat) : Reports s (t.evaluateWarn l) := by
  unfold State.evaluateWarn
  split
  · exact (h.setSolvent _).postSolvent (by decide)
  · split
    · exact h.setSolvent _
    · exact h

theorem evaluateGateState (h : Reports s t) (l : Nat) : Reports s (t.evaluateGateState l) := by
  have hcode (g : Gate) : g.code ≤ 255 := by cases g <;> decide
  unfold State.evaluateGateState
  dsimp only
  split
  · exact h
  · exact (h.setSolvent _).postSolvent (hcode _)

theorem evaluateGate (h : Reports s t) : Reports s t.evaluateGate := by
  unfold State.evaluateGate
  split
  · exact h.setSolvent _
  · exact (h.evaluateWarn _).evaluateGateState _

theorem storeItem (h : Reports s t) (x : Item) (v : Nat) : Reports s (t.storeItem x v) := by
  have hset : Reports s (t.setItem x v) := h.quiet rfl
  unfold State.storeItem State.itemChanged
  split
  · exact h
  · split
    · exact hset.evaluateGate
    · exact hset

/-! ### The channels -/

theorem deliver (h : Reports s t) (c : Chan) (n : Nat) : Reports s (t.deliver c n) := h.modPlateOpt ..

theorem markPlate (h : Reports s t) (c : Chan) (m : Mark) : Reports s (t.markPlate c m) := h.modPlateOpt ..

/-- A CHANNEL_STOP carries a result code of four bits and a channel's number (R115). -/
theorem postStop (h : Reports s t) (c : Chan) {code : Nat} (hc : code ≤ 3) : Reports s (t.postStop c code) := by
  have := c.index.isLt
  exact h.post _ _ (by dsimp only; omega)

theorem learnReference (h : Reports s t) (b : Bank) (a e : Nat) : Reports s (t.learnReference b a e) := by
  unfold State.learnReference
  split
  · exact h.quiet rfl
  · exact h

theorem noteShort (h : Reports s t) (c : Chan) : Reports s (t.noteShort c) := by
  unfold State.noteShort
  split <;> exact h.quiet rfl

theorem noteFailure (h : Reports s t) (c : Chan) : Reports s (t.noteFailure c) := by
  unfold State.noteFailure
  split <;> exact h.quiet rfl

theorem stopChan (h : Reports s t) (res : StopResult) (c : Chan) : Reports s (t.stopChan res c) := h.quiet rfl

theorem stopRun (h : Reports s t) (res : StopResult) (l : List Chan) :
    Reports s (l.foldl (fun u d => u.stopChan res d) t) := foldl (fun _ d hu => hu.stopChan res d) l h

theorem failChan (h : Reports s t) (c : Chan) : Reports s (t.failChan c) := h.quiet rfl

theorem stopReached (h : Reports s t) (c : Chan) : Reports s (t.stopReached c) :=
  (((h.stopRun ..).deliver ..).learnReference ..).postStop _ (by decide)

theorem stopTimeLimit (h : Reports s t) (c : Chan) : Reports s (t.stopTimeLimit c) :=
  foldl (fun _ d hu => hu.noteShort d) _ ((((h.stopRun ..).deliver ..).markPlate ..).postStop _ (by decide))

theorem failRun (h : Reports s t) (c : Chan) : Reports s (t.failRun c) :=
  have hfail : Reports s ((t.runOf c).foldl State.failChan t) := foldl (fun _ d hu => hu.failChan d) _ h
  foldl (fun _ d hu => hu.noteFailure d) _ (((hfail.deliver ..).markPlate ..).postStop _ (by decide))

theorem abortRun (h : Reports s t) (c : Chan) : Reports s (t.abortRun c) := by
  unfold State.abortRun
  split
  · exact (h.stopRun ..).deliver ..
  · exact h

theorem checkFramePhase (h : Reports s t) : Reports s t.checkFramePhase := by
  have hend (st : FrameState) {n : Nat} (hn : n ≤ 255) : Reports s ((t.setFrameState st).postFramePhaseEnd n) :=
    (h.quiet (u := t.setFrameState st) rfl).post _ _ hn
  unfold State.checkFramePhase
  split
  case h_1 | h_2 =>
    split
    · exact h
    · exact hend _ (by decide)
  all_goals exact h

theorem checkFinishPhase (h : Reports s t) : Reports s t.checkFinishPhase := by
  unfold State.checkFinishPhase
  split
  case h_1 =>
    split
    · exact h
    · exact (h.setFinisher _).post _ _ (by simp)
  all_goals exact h

theorem checkPhase (h : Reports s t) (c : Chan) : Reports s (t.checkPhase c) := by
  unfold State.checkPhase
  split
  · exact h.checkFramePhase
  · exact h.checkFinishPhase

theorem startSingle (h : Reports s t) (c : Chan) (i : Slot) (need : Int) (limit : Nat) :
    Reports s (t.startSingle c i need limit) := by
  unfold State.startSingle
  dsimp only
  split
  · exact h.modChan ..
  · exact (h.modChan ..).stopReached c

theorem startPair (h : Reports s t) (c d : Chan) (i : Slot) (need : Int) (limit : Nat) :
    Reports s (t.startPair c d i need limit) := by
  unfold State.startPair
  dsimp only
  split
  · exact (h.modChan ..).modChan ..
  · exact ((h.modChan ..).modChan ..).stopReached c

theorem startBackLane (h : Reports s t) (c : Chan) (lane : Lane) : Reports s (t.startBackLane c lane) := by
  unfold State.startBackLane
  split
  · exact h.startSingle ..
  · exact h

theorem startFaceLane (h : Reports s t) (c : Chan) (lane : Lane) : Reports s (t.startFaceLane c lane) := by
  unfold State.startFaceLane
  split
  · split
    · exact h
    · exact h.startSingle ..
  · exact h

theorem startBackChannels (h : Reports s t) : Reports s t.startBackChannels := by
  unfold State.startBackChannels
  split
  · split
    · exact h.startPair ..
    · exact h
  · exact (h.startBackLane ..).startBackLane ..

theorem startFaceChannels (h : Reports s t) : Reports s t.startFaceChannels := by
  unfold State.startFaceChannels
  split
  · split
    · split
      · exact h
      · exact h.startPair ..
    · exact h
  · exact (h.startFaceLane ..).startFaceLane ..

theorem startFinishing (h : Reports s t) : Reports s t.startFinishing := by
  unfold State.startFinishing
  split
  · exact (h.startSingle ..).startSingle ..
  · exact h

theorem creditSample (h : Reports s t) (c : Chan) (reading ts : Nat) : Reports s (t.creditSample c reading ts) := by
  unfold State.creditSample State.testRun
  split
  · exact ((h.modChan ..).stopReached c).checkPhase c
  · split
    · exact ((h.modChan ..).stopTimeLimit c).checkPhase c
    · exact h.modChan ..

theorem goodSample (h : Reports s t) (c : Chan) (reading ts : Nat) : Reports s (t.goodSample c reading ts) := by
  unfold State.goodSample
  dsimp only
  split
  · exact ((h.modChan ..).markPlate ..).creditSample ..
  · exact (h.modChan ..).creditSample ..

theorem badSample (h : Reports s t) (c : Chan) (ts : Nat) : Reports s (t.badSample c ts) := by
  unfold State.badSample
  dsimp only
  split
  · exact (h.modChan ..).creditSample ..
  · exact ((h.modChan ..).failRun c).checkPhase c

theorem readComplete (h : Reports s t) (answer : Option Word) : Reports s (t.readComplete answer) := by
  unfold State.readComplete
  split
  next r _ =>
    have hend : Reports s (t.endRead r answer) := h.quiet rfl
    unfold State.creditRead
    split
    · cases answer with
      | some v => exact hend.goodSample ..
      | none => exact hend.badSample ..
    · exact hend
  · exact h

theorem fallDue (h : Reports s t) (c : Chan) : Reports s (t.fallDue c) := h.quiet rfl

theorem sampleDue (h : Reports s t) (c : Chan) : Reports s (t.sampleDue c) := by
  unfold State.sampleDue
  split
  · exact foldl (fun _ d hu => hu.fallDue d) _ h
  · exact h

/-! ### The banks -/

theorem resumeChan (h : Reports s t) (c : Chan) : Reports s (t.resumeChan c) := by
  unfold State.resumeChan
  split
  · exact h.modChan ..
  · exact h

theorem pauseChan (h : Reports s t) (c : Chan) : Reports s (t.pauseChan c) := by
  unfold State.pauseChan
  split
  · exact h.quiet rfl
  · exact h

theorem bankBecomesReady (h : Reports s t) (b : Bank) : Reports s (t.bankBecomesReady b) :=
  have hindex : b.index.val ≤ 255 := by cases b <;> decide
  foldl (fun _ d hu => hu.resumeChan d) _ ((h.modBank b _).post _ _ hindex)

theorem bankOn (h : Reports s t) (b : Bank) : Reports s (t.bankOn b) := by
  unfold State.bankOn
  split
  · split
    · exact h.bankBecomesReady b
    · exact h.modBank ..
  · exact h
  · exact h

theorem bankOff (h : Reports s t) (b : Bank) : Reports s (t.bankOff b) :=
  foldl (fun _ d hu => hu.pauseChan d) _ (h.modBank b _)

theorem warmExpiry (h : Reports s t) (b : Bank) : Reports s (t.warmExpiry b) := by
  unfold State.warmExpiry
  split
  · exact h.bankBecomesReady b
  · exact h

theorem warmSecond (h : Reports s t) (b : Bank) : Reports s (t.decrement (.warm b)) := by
  simp only [State.decrement]
  split
  · exact h.modBank ..
  · exact h

/-! ### The moves of the plates -/

theorem placeOnFrame (h : Reports s t) (i : Slot) (lane : LanePlace) : Reports s (t.placeOnFrame i lane) :=
  h.quiet (by simp [State.placeOnFrame, State.leaveList])

theorem bedLoaded (h : Reports s t) (a b : Option Slot) : Reports s (t.bedLoaded a b) := h.quiet rfl

theorem clearBed (h : Reports s t) : Reports s t.clearBed := h.quiet rfl

theorem offLane (h : Reports s t) (i : Slot) : Reports s (t.offLane i) := h.modPlate ..

theorem settleLane (h : Reports s t) (lane : Lane) : Reports s (t.settleLane lane) := by
  unfold State.settleLane
  split
  · unfold State.settleUnloaded
    split
    · exact (h.offLane _).holdAtStep ..
    split
    · exact (h.offLane _).holdAtStep ..
    split
    · exact (h.offLane _).holdAtStep ..
    · exact ((h.offLane _).modPlate ..).joinTail ..
  · exact h

theorem undoLane (h : Reports s t) (ahead : Option Slot) (i : Slot) : Reports s (t.undoLane ahead i) := by
  unfold State.undoLane
  split
  · exact (h.offLane i).holdAtStep ..
  · exact ((h.offLane i).modPlate ..).fillList ..

theorem undoLoad (h : Reports s t) : Reports s t.undoLoad := by
  unfold State.undoLoad
  split
  · exact h
  · exact h.undoLane ..
  · exact (h.undoLane ..).undoLane ..

theorem holdAborted (h : Reports s t) (i : Slot) : Reports s (t.holdAborted i) := (h.offLane i).holdAtStep ..

theorem breakOffLoad (h : Reports s t) : Reports s t.breakOffLoad :=
  (foldl (fun _ i hu => hu.holdAborted i) _ (foldl (fun _ c hu => hu.abortRun c) _ h)).clearBed

theorem book (h : Reports s t) (i : Slot) : Reports s (t.book i) := by
  unfold State.book
  split
  · exact h
  · exact h.quiet rfl

theorem endWash (h : Reports s t) (i : Slot) : Reports s (t.endWash i) := by
  unfold State.endWash
  split
  · exact h.holdAtStep ..
  · exact (h.modPlate ..).joinTail ..

theorem overdueExpiry (h : Reports s t) (i : Slot) : Reports s (t.overdueExpiry i) := by
  unfold State.overdueExpiry
  split
  · exact ((h.setTransit _).modPlate i _).post .P _ (by simp)
  · exact h

theorem leaveTransit (h : Reports s t) (i : Slot) : Reports s (t.leaveTransit i) := h.setTransit _

theorem claim (h : Reports s t) (i : Slot) : Reports s (t.claim i).1 :=
  h.quiet (by simp [State.claim, State.leaveList])

theorem loadDrawer (h : Reports s t) (d : DrawerIx) (i : Slot) : Reports s (t.loadDrawer d i).1 :=
  h.quiet (by simp [State.loadDrawer, State.leaveList])

theorem emptyDrawer (h : Reports s t) (d : DrawerIx) (i : Slot) : Reports s (t.emptyDrawer d i) :=
  (h.modPlate i _).modDrawer d _

theorem unloadDrawer (h : Reports s t) (d : DrawerIx) (i : Slot) : Reports s (t.unloadDrawer d i) := by
  unfold State.unloadDrawer
  split
  · exact h.emptyDrawer ..
  · exact ((h.modPlate ..).emptyDrawer ..).holdAtStep ..
  · exact ((h.modPlate ..).emptyDrawer ..).holdAtStep ..
  · exact h

theorem endDrying (h : Reports s t) (i : Slot) : Reports s (t.endDrying i) := by
  unfold State.endDrying
  split
  · exact h.holdAtStep ..
  · exact (h.modPlate ..).joinTail ..

theorem dryExpiry (h : Reports s t) (d : DrawerIx) : Reports s (t.dryExpiry d) := by
  unfold State.dryExpiry
  split
  next i _ _ =>
    split
    · exact (((h.modDrawer d _).modPlate i _).post .D _ (by dsimp only; omega)).endDrying i
    · exact h
  · exact h

theorem clearReference (h : Reports s t) (i : Slot) : Reports s (t.clearReference i) := by
  unfold State.clearReference
  split
  · exact h.emptyDrawer ..
  · exact h

theorem loadFinisher (h : Reports s t) (i : Slot) : Reports s (t.loadFinisher i).1 :=
  (((h.setWaitList .finisher _).clearReference i).modPlate i _).setFinisher _

theorem clearFinisher (h : Reports s t) : Reports s t.clearFinisher := h.quiet rfl

theorem settleFinished (h : Reports s t) (i : Slot) : Reports s (t.settleFinished i) := by
  unfold State.settleFinished
  split
  · exact h.holdAtStep ..
  split
  · exact h.holdAtStep ..
  split
  · exact h.holdAtStep ..
  · exact (h.modPlate ..).post .P _ (by simp)

theorem undoFinish (h : Reports s t) (i : Slot) : Reports s (t.undoFinish i) := by
  unfold State.undoFinish
  split
  · exact h.holdAtStep ..
  · exact (h.modPlate ..).fillList ..

theorem breakOffFinish (h : Reports s t) (i : Slot) : Reports s (t.breakOffFinish i) :=
  ((h.abortRun .detack).abortRun .post).holdAtStep ..

theorem stage (h : Reports s t) (mk : Nat → Plate) (slots : List Slot) : Reports s (t.stage mk slots) := by
  obtain ⟨plates, hfill⟩ := fillCopies_eq mk 0 slots t
  have hcopies : Reports s (t.fillCopies mk 0 slots) := h.quiet (by rw [hfill])
  exact hcopies.fillList ..

end Reports

/-! ### Every deed -/

theorem StoreDeed.reports {s t : State} (h : StoreDeed s t) : Reports s t := by
  have same : Reports s s := .still
  cases h with
  | storeItem x v => exact same.storeItem ..
  | setMass m _ => exact (same.setSolvent _).evaluateGate
  | still | clearType | storeType | openDrawer | closeDrawer | drawerSecond | overdueSecond => exact same.quiet rfl

theorem LightDeed.reports {s t : State} (h : LightDeed s t) : Reports s t := by
  have same : Reports s s := .still
  have frame (st : FrameState) : Reports s (s.setFrameState st) := same.quiet rfl
  cases h with
  | bankOn b => exact same.bankOn b
  | bankOff b => exact same.bankOff b
  | startBack _ => exact (frame _).startBackChannels.checkFramePhase
  | startFace _ => exact (frame _).startFaceChannels.checkFramePhase
  | startFinisher _ => exact (same.setFinisher _).startFinishing.checkFinishPhase
  | warmExpiry b => exact same.warmExpiry b
  | warmSecond b => exact same.warmSecond b
  | sampleDue c => exact same.sampleDue c
  | readStart => exact same.quiet rfl
  | readComplete a => exact same.readComplete a

theorem PlateDeed.reports {s t : State} (h : PlateDeed s t) : Reports s t := by
  have same : Reports s s := .still
  cases h with
  | stage => exact same.stage ..
  | pend | unpend | purge => exact same.modPlate ..
  | hold i | scrap i => exact (same.leaveOwnList i).modPlate ..
  | release i => exact (same.modPlate i _).joinReleased ..
  | loadWide i => exact (same.placeOnFrame i _).bedLoaded ..
  | loadPair i j => exact ((same.placeOnFrame i _).placeOnFrame j _).bedLoaded ..
  | loadOne i => exact (same.placeOnFrame i _).bedLoaded ..
  | unload => exact ((same.settleLane _).settleLane _).clearBed
  | undoLoad => exact same.undoLoad.setFrame _
  | breakOffLoad => exact same.breakOffLoad
  | claim i => exact same.claim i
  | washDone i => exact (((same.leaveTransit i).book i).endWash i).evaluateGate
  | washFault i => exact (((same.leaveTransit i).book i).holdAtStep ..).evaluateGate
  | overdue i => exact same.overdueExpiry i
  | loadDrawer d i => exact same.loadDrawer d i
  | unloadDrawer d i => exact same.unloadDrawer d i
  | dryExpiry d => exact same.dryExpiry d
  | loadFinisher i => exact same.loadFinisher i
  | clearFinisher => exact same.clearFinisher
  | unloadFinisher i => exact (same.settleFinished i).clearFinisher
  | undoFinish i => exact (same.undoFinish i).setFinisher _
  | breakOffFinish i => exact (same.breakOffFinish i).clearFinisher

/-- What a deed tells the ports are events with parameters of one byte. -/
theorem Deed.reports {s t : State} (h : Deed s t) : Reports s t := by
  cases h with
  | store h => exact h.reports
  | plate h => exact h.reports
  | light h => exact h.reports

/-! ### Every row -/

theorem Deed.queuesOk {s t : State} (hd : Deed s t) (h : s.QueuesOk) : t.QueuesOk := hd.reports.queuesOk h

theorem State.QueuesOk.replied {s : State} (h : s.QueuesOk) (p : Port) (result : Byte) (data : List Byte) :
    (s.replied p result data).QueuesOk :=
  (h.modPort (p := p) (f := fun q => { q with frame := .answering 1 (result :: data) true }) (h p)).of_ports rfl

theorem grant_queuesOk {s : State} {p : Port} {bytes : List Byte} {f : State → State × Reply} (ha : Answers s (f s))
    (h : s.QueuesOk) : (grant p bytes f s).QueuesOk := by
  rcases grant_cases p bytes f s with ⟨-, he⟩ | ⟨-, he⟩
  · rw [he]; exact State.QueuesOk.replied (ha.deed.queuesOk h) p _ _
  · rw [he]; exact h

theorem lastByte_queuesOk {s : State} {f : PortRec → PortRec} (p : Port) (bytes : List Byte)
    (hf : ∀ q : PortRec, AttentionOk q.attn → AttentionOk (f q).attn) (h : s.QueuesOk) :
    (lastByte p bytes f s).QueuesOk := by
  unfold lastByte
  split
  · exact h.modPort (hf _ (h p))
  · exact h

theorem whileUp_queuesOk {s : State} {f : State → State} (hf : (f s).QueuesOk) (h : s.QueuesOk) :
    (whileUp f s).QueuesOk := by
  unfold whileUp
  split
  · exact h
  · exact hf

theorem shiftByte_queuesOk {s : State} (p : Port) (b : Byte) (h : s.QueuesOk) : (s.shiftByte p b).QueuesOk := by
  unfold State.shiftByte
  split
  · exact h
  · split
    · exact (h.modPort (p := p) (f := fun q => q.clock b (Config.strayByte s.strayCount)) (h p)).of_ports rfl
    · exact h.modPort (PortRec.shift_attentionOk p b (h p))

theorem powerOn_queuesOk (s : State) : s.powerOn.QueuesOk := fun p => by cases p <;> exact attentionOk_empty

theorem selFall_queuesOk {s t : State} {p : Port} (he : exec (.selFall p) s = .next t) (h : s.QueuesOk) : t.QueuesOk := by
  obtain rfl := Host.Outcome.next.inj he
  split
  · exact h
  · split <;> exact h.modPort (h p)

theorem selRise_queuesOk {s t : State} {p : Port} (he : exec (.selRise p) s = .next t) (h : s.QueuesOk) : t.QueuesOk := by
  obtain rfl := Host.Outcome.next.inj he
  refine h.modPort ?_
  split <;> exact h p

/-- A row does a deed and answers, takes a frame's last byte, moves a pin or a byte, or resets the part. -/
theorem exec_queuesOk {c : Instr} {s t : State} (he : exec c s = .next t) (h : s.QueuesOk) : t.QueuesOk := by
  have event {f : State → State} (hd : Deed s (f s))
      (he : Host.Outcome.next (whileUp f s) = (.next t : Host.Outcome State Fault Refusal)) : t.QueuesOk := by
    obtain rfl := Host.Outcome.next.inj he
    exact whileUp_queuesOk (hd.queuesOk h) h
  have last {p : Port} {bytes : List Byte} {f : PortRec → PortRec}
      (hf : ∀ q : PortRec, AttentionOk q.attn → AttentionOk (f q).attn)
      (he : Host.Outcome.next (lastByte p bytes f s) = (.next t : Host.Outcome State Fault Refusal)) : t.QueuesOk := by
    obtain rfl := Host.Outcome.next.inj he
    exact lastByte_queuesOk p bytes hf h
  have named {b : Bool} {p : Port} {bytes : List Byte} {f : PortRec → PortRec}
      (he : Host.Outcome.next (if b then lastByte p bytes f s else s) = (.next t : Host.Outcome State Fault Refusal))
      (hf : ∀ q, (f q).attn = q.attn) : t.QueuesOk := by
    obtain rfl := Host.Outcome.next.inj he
    split
    · exact lastByte_queuesOk p bytes (fun q hq => hf q ▸ hq) h
    · exact h
  cases hc : effectOf c with
  | some f =>
    obtain ⟨p, -, hg⟩ := exec_of_effectOf hc s
    obtain rfl := Host.Outcome.next.inj (hg.symm.trans he)
    exact grant_queuesOk (effectOf_answers hc s) h
  | none =>
    cases c
    case powerOnReset =>
      obtain rfl := Host.Outcome.next.inj he
      exact powerOn_queuesOk s
    case rstRise =>
      obtain rfl := Host.Outcome.next.inj he
      exact h.of_ports rfl
    case selFall p => exact selFall_queuesOk he h
    case selRise p => exact selRise_queuesOk he h
    case arbiterWait | unknownCommand | wrongPortCommand => exact named he fun _ => rfl
    case readStatus => exact last (fun _ hq => hq.setOverrun false) he
    case evtFreeze => exact last (fun _ hq => hq.freeze) he
    case evtTake => exact last (fun _ hq => hq.take) he
    case evtDone => exact last (fun _ hq => hq.done) he
    case portReset => exact last (fun _ _ => attentionOk_empty) he
    case warmTimerExpiry b => exact event (.light (.warmExpiry b)) he
    case dryTimerExpiry d => exact event (.plate (.dryExpiry d)) he
    case overdueTimerExpiry i => exact event (overdueExpiry_deed s i) he
    case sampleDue c => exact event (.light (.sampleDue c)) he
    case sensorReadStart => exact event (.light .readStart) he
    case sensorReadComplete a => exact event (.light (.readComplete a)) he
    case timerDecrement timer => exact event (decrement_deed s timer) he
    case byteArrival p b =>
      obtain rfl := Host.Outcome.next.inj he
      exact whileUp_queuesOk (shiftByte_queuesOk p b h) h
    all_goals cases hc

/-- Settles O55: a step is the row at the front of the queue, or none. -/
theorem everyStepKeepsTheEventQueues : Obligations.EveryStepKeepsTheEventQueues := by
  intro s t h he
  unfold step at he
  split at he
  · obtain rfl := Host.Outcome.next.inj he
    exact h
  · exact exec_queuesOk he (State.QueuesOk.of_ports (s := s) h rfl)

end Sys2Proof.Machine

section
/-! The frames of the ports (R176 to R179, R181, R183): SEL, the bytes before and behind a reply, and what is answered at
once. -/

namespace Sys2Proof.Machine

/-! ### SEL (R176, R178) -/

/-- Settles O5: the error that a rise leaves is read off the frame, form by form. -/
theorem selBeginsAndEndsAFrame : Obligations.SelBeginsAndEndsAFrame := by
  refine ⟨fun s p hr hs => ?fall, fun s p hs => ⟨errorAfterRise (s.port p).frame (s.port p).lastError, ?rise, ?_⟩⟩
  case fall => simp only [exec, execSelFall, hs, hr]; rfl
  case rise => exact congrArg Host.Outcome.next (State.modPort_congr (by simp [hs]))
  refine ⟨fun h => ?_, fun h => ?_, fun b bs h => ?_, fun bs h => ?_, fun n b bs h => ?_, fun n acted h => ?_,
    fun n bs h => ?cut⟩ <;> rw [h]
  case cut => cases bs <;> rfl
  all_goals rfl

/-! ### Bytes before the reply (R176, R177) -/

section
variable {s : State} {p : Port} {b : Byte}

theorem exec_byteArrival_of_selHigh (h : (s.port p).selLow = false) : exec (.byteArrival p b) s = .next s := by
  have hshift : s.shiftByte p b = s := by simp [State.shiftByte, h]
  simp only [exec, execByteArrival, whileUp, hshift, ite_self]

variable (hr : s.rstLow = false) (hs : (s.port p).selLow = true)
include hr hs

theorem exec_byteArrival_of_idle (h : (s.port p).frame = .idle) : exec (.byteArrival p b) s = .next
    { s.modPort p fun q => q.clocked b (Config.strayByte s.strayCount) with strayCount := s.strayCount + 1 } := by
  simp only [exec, execByteArrival, whileUp, hr, State.shiftByte, hs, h, PortRec.clock_eq_clocked]; rfl

/-- A byte of a frame in progress changes its port's record alone. -/
theorem exec_byteArrival_of_frame (h : (s.port p).frame ≠ .idle) :
    exec (.byteArrival p b) s = .next (s.modPort p fun q => q.shift p b) := by
  have hidle : ((s.port p).frame == .idle) = false := by simpa using h
  simp only [exec, execByteArrival, whileUp, hr, State.shiftByte, hs, hidle]; rfl

end

theorem PortRec.shift_of_receiving {q : PortRec} {got : List Byte} (h : q.frame = .receiving got) (p : Port) (b : Byte) :
    q.shift p b = (q.clocked b 0xFF).acceptBytes p (got ++ [b]) := by
  simp only [PortRec.shift, h, PortRec.clock_eq_clocked, receivedByte_lineClocks]

theorem PortRec.shift_of_waiting {q : PortRec} {bytes : List Byte} (h : q.frame = .waiting bytes) (p : Port) (b : Byte) :
    q.shift p b = q.clocked b 0xFF := by
  simp only [PortRec.shift, h, PortRec.clock_eq_clocked]

theorem PortRec.acceptBytes_of_short {code : Byte} {params : List Byte} {row : CommandRow}
    (hrow : commandRow code = some row) (h : params.length < row.params) (q : PortRec) (p : Port) :
    q.acceptBytes p (code :: params) = { q with frame := .receiving (code :: params) } := by
  simp only [PortRec.acceptBytes, hrow, if_pos h]

/-- Settles O7, by the form of the frame. -/
theorem byteBeforeTheReply : Obligations.ByteBeforeTheReply := by
  refine ⟨fun s p b hr hs => ⟨fun got code params row hf hgot hrow hlen => ?kept, fun bytes hf => ?waits,
    exec_byteArrival_of_idle hr hs⟩, fun s p b => exec_byteArrival_of_selHigh, fun sent out => ?received⟩
  case kept =>
    rw [exec_byteArrival_of_frame hr hs (by simp [hf])]
    refine congrArg Host.Outcome.next (State.modPort_congr ?_)
    rw [PortRec.shift_of_receiving hf, hgot, PortRec.acceptBytes_of_short hrow hlen]
  case waits =>
    rw [exec_byteArrival_of_frame hr hs (by simp [hf])]
    exact congrArg Host.Outcome.next (State.modPort_congr (PortRec.shift_of_waiting hf p b))
  case received => rw [← lineClocks_eq_eightClocks, receivedByte_lineClocks]

/-! ### The reply (R176, R177) -/

/-- The bytes that a port has to clock out: filler, the rest of the reply, and 0x00 behind it. -/
def answerLine (filler : Nat) (rest : List Byte) (zeros : Nat) : List Byte :=
  List.replicate filler 0xFF ++ rest ++ List.replicate zeros 0x00

/-- A byte on a port that answers is ignored, and the front byte of what the port has to clock out goes out with it. -/
theorem PortRec.shift_of_answering {q : PortRec} {filler : Nat} {rest : List Byte} {acted : Bool}
    (h : q.frame = .answering filler rest acted) (p : Port) (b : Byte) (zeros : Nat) :
    ∃ filler' rest' zeros' out, q.shift p b = { q.clocked b out with frame := .answering filler' rest' acted }
      ∧ zeros ≤ zeros' ∧ answerLine filler rest (zeros + 1) = out :: answerLine filler' rest' zeros' := by
  unfold PortRec.shift
  cases filler with
  | succ n => exact ⟨n, rest, zeros + 1, 0xFF, by simp [h], Nat.le_succ _, by simp [answerLine, List.replicate_succ]⟩
  | zero =>
    cases rest with
    | cons r rest => exact ⟨0, rest, zeros + 1, r, by simp [h], Nat.le_succ _, by simp [answerLine]⟩
    | nil =>
      refine ⟨0, [], zeros, 0x00, ?_, le_rfl, by simp [answerLine, List.replicate_succ]⟩
      simp only [h, PortRec.clock_eq_clocked, PortRec.clocked]

theorem State.clockBytes_cons {s t : State} {p : Port} {b : Byte} (h : exec (.byteArrival p b) s = .next t)
    (bs : List Byte) :
    s.clockBytes p (b :: bs) = ((t.clockBytes p bs).1, (t.port p).dataOut :: (t.clockBytes p bs).2) := by
  simp only [State.clockBytes, h]

theorem State.modPort_modPort (s : State) (p : Port) (f g : PortRec → PortRec) :
    (s.modPort p f).modPort p g = s.modPort p fun q => g (f q) := by
  simp [State.modPort]

/-- What is clocked out while a port answers, whatever is sent, and what it leaves alone. -/
theorem clockBytes_of_answering {s : State} {p : Port} {acted : Bool} (hr : s.rstLow = false)
    (hs : (s.port p).selLow = true) (sent : List Byte) {filler zeros : Nat} {rest : List Byte}
    (hf : (s.port p).frame = .answering filler rest acted) (hz : sent.length ≤ zeros) :
    (s.clockBytes p sent).2 = ((answerLine filler rest zeros).take sent.length).map some
      ∧ ∃ f d k, (s.clockBytes p sent).1 = s.modPort p fun q => { q with frame := f, dataOut := d, clocks := k } := by
  induction sent generalizing s filler zeros rest with
  | nil => exact ⟨rfl, _, _, _, (State.modPort_eq_self rfl).symm⟩
  | cons b bs ih =>
    obtain ⟨zeros, rfl⟩ := Nat.exists_eq_add_of_lt (Nat.lt_of_lt_of_le (Nat.succ_pos _) hz)
    rw [Nat.zero_add] at hz ⊢
    obtain ⟨filler', rest', zeros', out, hshift, hle, hline⟩ := PortRec.shift_of_answering hf p b zeros
    have hbyte := (exec_byteArrival_of_frame (b := b) hr hs (by simp [hf])).trans
      (congrArg Host.Outcome.next (State.modPort_congr (g := fun q =>
        { q.clocked b out with frame := .answering filler' rest' acted }) hshift))
    obtain ⟨hout, f, d, k, hstate⟩ := ih (s := s.modPort p fun q =>
      { q.clocked b out with frame := .answering filler' rest' acted }) (filler := filler') (rest := rest') hr
      (by rw [State.port_modPort_self]; exact hs) (by rw [State.port_modPort_self])
      ((Nat.le_of_succ_le_succ hz).trans hle)
    rw [State.clockBytes_cons hbyte]
    refine ⟨?_, f, d, k, ?_⟩
    · rw [hout, hline]; simp
    · rw [hstate, State.modPort_modPort]; rfl

theorem exemptEffect_dataOut_clocks (code : Byte) (q : PortRec) :
    (exemptEffect code q).1.dataOut = q.dataOut ∧ (exemptEffect code q).1.clocks = q.clocks := by
  unfold exemptEffect
  split <;> exact ⟨rfl, rfl⟩

theorem PortRec.acceptBytes_dataOut_clocks (q : PortRec) (p : Port) (bytes : List Byte) :
    (q.acceptBytes p bytes).dataOut = q.dataOut ∧ (q.acceptBytes p bytes).clocks = q.clocks := by
  unfold PortRec.acceptBytes
  split
  · exact ⟨rfl, rfl⟩
  split
  · exact ⟨rfl, rfl⟩
  split
  · exact ⟨rfl, rfl⟩
  split
  · split
    · exact ⟨rfl, rfl⟩
    · exact exemptEffect_dataOut_clocks _ q
  · exact ⟨rfl, rfl⟩

/-- Whatever a byte does to a frame in progress, its clocks pair it with the byte that goes out. -/
theorem PortRec.shift_pairs {q : PortRec} (h : q.frame ≠ .idle) (p : Port) (b : Byte) :
    ∃ out, (q.shift p b).dataOut = some out ∧ (q.shift p b).clocks = eightClocks b out := by
  cases hf : q.frame with
  | idle => exact absurd hf h
  | receiving got =>
    obtain ⟨hd, hk⟩ := (q.clocked b 0xFF).acceptBytes_dataOut_clocks p (got ++ [b])
    rw [PortRec.shift_of_receiving hf]
    exact ⟨0xFF, hd, hk⟩
  | waiting bytes =>
    rw [PortRec.shift_of_waiting hf]
    exact ⟨0xFF, rfl, rfl⟩
  | answering filler rest acted =>
    obtain ⟨_, _, _, out, hshift, -, -⟩ := PortRec.shift_of_answering hf p b 0
    rw [hshift]
    exact ⟨out, rfl, rfl⟩

/-- Settles O8: the answer is clocked out byte by byte, and each byte is paired with the one sent. -/
theorem replyIsClockedOut : Obligations.ReplyIsClockedOut := by
  refine ⟨fun s p reply sent acted hr hs hf => ?answer, fun s p b hr hs => ?pairs⟩
  case answer => exact clockBytes_of_answering hr hs sent hf le_rfl
  case pairs =>
    by_cases hf : (s.port p).frame = .idle
    · have hport := State.port_modPort_self s p fun q => q.clocked b (Config.strayByte s.strayCount)
      exact ⟨_, _, exec_byteArrival_of_idle hr hs hf, congrArg PortRec.dataOut hport, congrArg PortRec.clocks hport⟩
    · obtain ⟨out, hd, hk⟩ := PortRec.shift_pairs hf p b
      refine ⟨_, out, exec_byteArrival_of_frame hr hs hf, ?_, ?_⟩
      · rw [State.port_modPort_self, hd]
      · rw [State.port_modPort_self, hk]; rfl

/-! ### What is answered at once (R179, R181, R183) -/

theorem lastByte_of_due {s : State} {c : Instr} {p : Port} (hp : commandPort c = some p) (h : LastByteDue c s)
    (f : PortRec → PortRec) : lastByte p (frameBytes c) f s =
      s.modPort p fun q => f (q.clocked ((frameBytes c).getLastD 0) 0xFF) :=
  lastByte_of_completes f (by simpa [LastByteDue, hp] using h)

/-- Settles O10: each row is the last byte of its frame, and the answer is all that it leaves. -/
theorem unknownAndWrongPortAreAnswered : Obligations.UnknownAndWrongPortAreAnswered := by
  refine ⟨fun s p code hrow hdue => ?unknown, fun s p code params hok hdue => ?wrongPort⟩
  case unknown =>
    exact congrArg Host.Outcome.next ((if_pos (by simp [hrow])).trans (lastByte_of_due rfl hdue _))
  case wrongPort =>
    have hlast : (code :: params).getLastD 0 = params.getLastD code := by cases params <;> rfl
    refine congrArg Host.Outcome.next ((if_pos hok).trans ((lastByte_of_due rfl hdue _).trans ?_))
    rw [frameBytes, hlast]; rfl

theorem beBytes_two_of_bitVec (v : BitVec 9) :
    beBytes 2 v.toNat = [(v.setWidth 16).extractLsb' 8 8, (v.setWidth 16).extractLsb' 0 8] := by
  have hv : (v.setWidth 16).toNat = v.toNat := BitVec.toNat_setWidth_of_le (by decide)
  rw [beBytes_two, word2, BitVec.extractLsb', BitVec.extractLsb', hv, Nat.shiftRight_eq_div_pow, Nat.shiftRight_zero]

/-- The six bytes of READ_STATUS (R181). -/
theorem PortRec.statusBytes_eq (q : PortRec) : q.statusBytes =
    [byte1 q.lastError.code, if q.attn.overrun then 1 else 0, if q.attn.frozen.isSome then 1 else 0,
      (q.attn.inService.setWidth 16).extractLsb' 8 8, (q.attn.inService.setWidth 16).extractLsb' 0 8,
      BitVec.ofNat 8 q.attn.queue.length] := by
  have hflag (b : Bool) : flagByte b = if b then 1 else 0 := by cases b <;> rfl
  rw [PortRec.statusBytes, beBytes_two_of_bitVec, hflag, hflag]
  rfl

/-- Settles O13: both are exempt, and act on their port's record as the code byte arrives. -/
theorem statusAndPortReset : Obligations.StatusAndPortReset := by
  refine ⟨fun s p hdue => ?status, fun s p hdue => ?reset⟩
  case status =>
    refine congrArg Host.Outcome.next ((lastByte_of_due rfl hdue _).trans (State.modPort_congr ?_))
    generalize s.port p = q
    have hanswer : (q.clocked 0x01 0xFF).actAtOnce PortRec.readStatus = { q.clocked 0x01 0xFF with
        lastError := .none
        attn := { q.attn with overrun := false }
        frame := .answering 1 (0x00 :: q.statusBytes) true } := rfl
    refine hanswer.trans ?_
    rw [q.statusBytes_eq]
    cases q.lastError <;> rfl
  case reset => exact congrArg Host.Outcome.next ((lastByte_of_due rfl hdue _).trans (State.modPort_congr rfl))

end Sys2Proof.Machine
end

section
/-! SET_CONFIG and READ_LINE (R127, R184, R185). -/

namespace Sys2Proof.Machine

/-! ### SET_CONFIG (R185) -/

/-- The value found: brought into the item's range, then clamped against the other item of its ordered pair. -/
theorem State.configValue_eq (s : State) (x : Item) (n : Nat) :
    s.configValue x n = s.pairClamp x (max x.range.1 (min x.range.2 n)) := by
  rw [State.configValue, clampTo_eq (by cases x <;> decide)]

theorem Item.movesGate_iff (x : Item) : x.movesGate = true ↔ x ∈ [Item.tankL, .lWarn, .lHold, .lResume] := by
  cases x <;> decide

theorem State.storeItem_eq (s : State) (x : Item) (v : Nat) : s.storeItem x v =
    if v = s.item x then s
    else if x ∈ [Item.tankL, .lWarn, .lHold, .lResume] then (s.setItem x v).evaluateGate else s.setItem x v := by
  simp only [State.storeItem, State.itemChanged, x.movesGate_iff]

theorem setConfigEffect_of_index {code : Byte} {x : Item} (h : code.toNat = x.index.val) (value : Word) (s : State) :
    setConfigEffect code value s = (s.storeItem x (s.configValue x value.toNat),
      ⟨okOrClamped (s.configValue x value.toNat != value.toNat), word2 (s.configValue x value.toNat)⟩) := by
  simp only [setConfigEffect, namedItem_of_index h, beBytes_two]

theorem setConfigEffect_of_gt {code : Byte} (h : 15 < code.toNat) (value : Word) (s : State) :
    setConfigEffect code value s = refuse .badParam s := by
  rw [setConfigEffect, namedItem_of_gt h]

/-- Settles O32: the table of 11.6.1 gives the items' own ranges, and the second clamp is the model's item by item. -/
theorem setConfigStoresTheValueInRange : Obligations.SetConfigStoresTheValueInRange := by
  refine ⟨fun s code value hg h => ?bad, fun s code value x lo hi v hg hx hrange hv => ?stored⟩
  case bad => rw [exec_setConfig code value hg, setConfigEffect_of_gt h]; rfl
  case stored =>
    have hrow : (lo, hi) = x.range := by cases x <;> simpa [Item.range] using hrange
    obtain ⟨rfl, rfl⟩ := Prod.mk.inj hrow
    have hvalue : v = s.configValue x value.toNat := by
      rw [hv, s.configValue_eq]
      cases x <;> rfl
    rw [exec_setConfig code value hg, setConfigEffect_of_index hx, ← hvalue, State.granted_mk, code_okOrClamped_bne,
      State.storeItem_eq]

/-! ### READ_LINE (R184) -/

theorem slotByte_eq (o : Option Slot) : slotByte o = byte1 ((o.map fun i => i.val).getD 255) := by
  cases o <;> rfl

/-- A slot in a byte is read back whole. -/
theorem slot_mod (o : Option Slot) : (o.map fun i => i.val).getD 255 % 2 ^ 8 = (o.map fun i => i.val).getD 255 := by
  cases o with
  | none => rfl
  | some i => exact Nat.mod_eq_of_lt (i.isLt.trans (by decide))

theorem State.shownLoading_eq (s : State) :
    s.shownLoading = (s.solvent.mass.map fun m => m / s.item .tankL).getD 0 := by
  unfold State.shownLoading
  cases s.solvent.mass <;> rfl

/-- A channel's result as READ_LINE shows it: absent while the channel is not STOPPED (R184). -/
def Channel.shownResult (k : Channel) : Nat :=
  (if k.state = .stopped then k.result.map StopResult.code else none).getD 255

/-- A slot as a number of a reply, with the number of its bytes (R184). -/
def slotField (o : Option Slot) : Nat × Nat := (1, (o.map fun i => i.val).getD 255)

/-- The numbers of a bank (R184). -/
def BankRec.fields (k : BankRec) : List (Nat × Nat) :=
  [(1, k.state.code), (2, if k.state = .warming then k.warm else 0), (2, k.ref.getD 0)]

/-- The numbers of a channel (R184). -/
def Channel.fields (k : Channel) : List (Nat × Nat) := [(1, k.state.code), (1, k.shownResult), slotField k.slot]

/-- The numbers of a list (R184). -/
def listFields (q : List Slot) : List (Nat × Nat) := [(1, q.length), slotField q.head?]

/-- The numbers of the transit list (R184). -/
def transitFields (t : List TransitEntry) : List (Nat × Nat) :=
  [(1, t.length), slotField (t[0]?.map fun e => e.slot), slotField (t[1]?.map fun e => e.slot),
    slotField (t[2]?.map fun e => e.slot)]

/-- The numbers of a drawer (R184). -/
def Drawer.fields (k : Drawer) : List (Nat × Nat) := [(1, k.state.code), slotField k.slot, (2, k.remaining)]

/-- The numbers of the READ_LINE reply, group by group in the order of R184. -/
def State.lineFields (s : State) : List (Nat × Nat) :=
  List.flatten
    [[(1, s.frame.state.code), slotField s.frame.laneA.slot, slotField s.frame.laneB.slot,
        (1, flagBits [s.frame.laneA.failure, s.frame.laneA.short, s.frame.laneB.failure, s.frame.laneB.short])],
      (s.bank .back).fields, (s.bank .face).fields, (s.bank .detack).fields, (s.bank .post).fields,
      (s.chan .backA).fields, (s.chan .backB).fields, (s.chan .faceA).fields, (s.chan .faceB).fields,
      (s.chan .detack).fields, (s.chan .post).fields,
      listFields s.exposureQ, listFields s.washQ, transitFields s.transit, listFields s.dryerQ, listFields s.finisherQ,
      (s.drawer 0).fields, (s.drawer 1).fields, (s.drawer 2).fields, (s.drawer 3).fields,
      [(1, s.finisher.state.code), slotField s.finisher.slot, (1, flagBits [s.finisher.failure, s.finisher.short]),
        (1, flagBits [s.solvent.mass.isSome, s.solvent.warn]), (1, s.solvent.gate.code), (4, s.solvent.mass.getD 0),
        (4, s.shownLoading)]]

/-- The widths of the numbers of R184, in bytes. -/
def lineWidths : List Nat :=
  [1, 1, 1, 1] ++ [1, 2, 2, 1, 2, 2, 1, 2, 2, 1, 2, 2] ++ List.replicate 30 1
    ++ [1, 1, 2, 1, 1, 2, 1, 1, 2, 1, 1, 2] ++ [1, 1, 1, 1, 1, 4, 4]

theorem lineFields_widths (s : State) : s.lineFields.map (fun f => f.1) = lineWidths := rfl

theorem banks_toList_eq (s : State) : s.banks.toList = [s.bank .back, s.bank .face, s.bank .detack, s.bank .post] := by
  refine List.ext_getElem (by simp) fun n hn _ => ?_
  have hn : n < 4 := by simpa using hn
  interval_cases n <;> rfl

theorem chans_toList_eq (s : State) : s.chans.toList =
    [s.chan .backA, s.chan .backB, s.chan .faceA, s.chan .faceB, s.chan .detack, s.chan .post] := by
  refine List.ext_getElem (by simp) fun n hn _ => ?_
  have hn : n < 6 := by simpa using hn
  interval_cases n <;> rfl

theorem drawers_toList_eq (s : State) : s.drawers.toList = [s.drawer 0, s.drawer 1, s.drawer 2, s.drawer 3] := by
  refine List.ext_getElem (by simp) fun n hn _ => ?_
  have hn : n < 4 := by simpa using hn
  interval_cases n <;> rfl

theorem fieldBytes_flatten (l : List (List (Nat × Nat))) : fieldBytes l.flatten = l.flatMap fieldBytes := by
  induction l with
  | nil => rfl
  | cons a l ih => rw [List.flatten_cons, List.flatMap_cons, ← ih]; exact List.flatMap_append

theorem bankBytes_eq (k : BankRec) : k.bytes = fieldBytes k.fields := by
  simp only [BankRec.bytes, BankRec.fields, fieldBytes_cons, fieldBytes_nil, beBytes_one, List.append_nil,
    List.append_assoc]

theorem channelBytes_eq (k : Channel) : k.bytes = fieldBytes k.fields := by
  simp only [Channel.bytes, Channel.fields, Channel.shownResult, slotField, fieldBytes_cons, fieldBytes_nil, beBytes_one,
    codeOrFF_eq, slotByte_eq, List.cons_append, List.nil_append]

theorem listBytes_eq (q : List Slot) : listBytes q = fieldBytes (listFields q) := by
  simp only [listBytes, listFields, slotField, fieldBytes_cons, fieldBytes_nil, beBytes_one, slotByte_eq,
    List.cons_append, List.nil_append]

theorem drawerBytes_eq (k : Drawer) : k.bytes = fieldBytes k.fields := by
  simp only [Drawer.bytes, Drawer.fields, slotField, fieldBytes_cons, fieldBytes_nil, beBytes_one, slotByte_eq,
    List.append_nil, List.cons_append, List.nil_append]

theorem transitBytes_eq (t : List TransitEntry) : transitBytes t = fieldBytes (transitFields t) := by
  simp only [transitBytes, transitFields, slotField, fieldBytes_cons, fieldBytes_nil, beBytes_one, ← slotByte_eq]
  rfl

theorem lineBytes_eq (s : State) : s.lineBytes = fieldBytes s.lineFields := by
  rw [State.lineBytes, State.lineFields, banks_toList_eq, chans_toList_eq, drawers_toList_eq, fieldBytes_flatten]
  simp only [List.flatMap_cons, List.flatMap_nil, bankBytes_eq, channelBytes_eq, listBytes_eq, drawerBytes_eq,
    transitBytes_eq, List.append_assoc, List.append_nil]
  simp only [fieldBytes_cons, fieldBytes_nil, slotField, slotByte_eq, beBytes_one, List.append_nil, List.cons_append,
    List.nil_append]

section
variable {s : State} (k : Nat) {v o : Nat}

/-- A number of the READ_LINE reply, at its offset. -/
theorem numberAt_lineFields {n m : Nat} (h : s.lineFields[k]? = some (n, v)) (ho : (lineWidths.take k).sum = o)
    (hm : 256 ^ n = m) : numberAt (fieldBytes s.lineFields) o n = v % m := by
  rw [← ho, ← hm, ← lineFields_widths s]
  exact numberAt_fieldBytes h

theorem byteOf_lineFields (h : s.lineFields[k]? = some (1, v)) (ho : (lineWidths.take k).sum = o) :
    byteOf (fieldBytes s.lineFields) o = v % 2 ^ 8 := numberAt_lineFields k h ho rfl

/-- A slot of the READ_LINE reply, at its offset. -/
theorem slotAt_lineFields {x : Option Slot} (h : s.lineFields[k]? = some (slotField x))
    (ho : (lineWidths.take k).sum = o) : byteOf (fieldBytes s.lineFields) o = (x.map fun i => i.val).getD 255 :=
  (byteOf_lineFields k h ho).trans (slot_mod x)

end

/-- The numbers of a bank, at their offsets. -/
theorem bankAt_lineFields (s : State) (b : Bank) :
    byteOf (fieldBytes s.lineFields) (4 + 5 * b.index) = [BankState.off, .warming, .ready].idxOf (s.bank b).state
      ∧ numberAt (fieldBytes s.lineFields) (5 + 5 * b.index) 2 =
        (if (s.bank b).state = .warming then (s.bank b).warm else 0) % 2 ^ 16
      ∧ numberAt (fieldBytes s.lineFields) (7 + 5 * b.index) 2 = (s.bank b).ref.getD 0 % 2 ^ 16 := by
  have hcode : (s.bank b).state.code % 2 ^ 8 = [BankState.off, .warming, .ready].idxOf (s.bank b).state := by
    cases (s.bank b).state <;> rfl
  refine ⟨(byteOf_lineFields (4 + 3 * b.index.val) ?_ ?_).trans hcode, numberAt_lineFields (5 + 3 * b.index.val) ?_ ?_ rfl,
    numberAt_lineFields (6 + 3 * b.index.val) ?_ ?_ rfl⟩ <;> cases b <;> rfl

/-- The numbers of a drawer, at their offsets. -/
theorem drawerAt_lineFields (s : State) (d : DrawerIx) :
    byteOf (fieldBytes s.lineFields) (54 + 4 * d) = [DrawerState.empty, .drying, .opened, .dry].idxOf (s.drawer d).state
      ∧ byteOf (fieldBytes s.lineFields) (55 + 4 * d) = ((s.drawer d).slot.map fun i => i.val).getD 255
      ∧ numberAt (fieldBytes s.lineFields) (56 + 4 * d) 2 = (s.drawer d).remaining % 2 ^ 16 := by
  have hcode : (s.drawer d).state.code % 2 ^ 8 = [DrawerState.empty, .drying, .opened, .dry].idxOf (s.drawer d).state := by
    cases (s.drawer d).state <;> rfl
  refine ⟨(byteOf_lineFields (46 + 3 * d.val) ?_ ?_).trans hcode, slotAt_lineFields (47 + 3 * d.val) ?_ ?_,
    numberAt_lineFields (48 + 3 * d.val) ?_ ?_ rfl⟩ <;> fin_cases d <;> rfl

/-- The numbers of a channel, at their offsets. -/
theorem channelAt_lineFields (s : State) (c : Chan) :
    byteOf (fieldBytes s.lineFields) (24 + 3 * c.index) =
        [ChanState.idle, .running, .paused, .stopped, .failed].idxOf (s.chan c).state
      ∧ byteOf (fieldBytes s.lineFields) (25 + 3 * c.index) = (s.chan c).shownResult % 2 ^ 8
      ∧ byteOf (fieldBytes s.lineFields) (26 + 3 * c.index) = ((s.chan c).slot.map fun i => i.val).getD 255 := by
  have hcode : (s.chan c).state.code % 2 ^ 8 =
      [ChanState.idle, .running, .paused, .stopped, .failed].idxOf (s.chan c).state := by
    cases (s.chan c).state <;> rfl
  refine ⟨(byteOf_lineFields (16 + 3 * c.index.val) ?_ ?_).trans hcode, byteOf_lineFields (17 + 3 * c.index.val) ?_ ?_,
    slotAt_lineFields (18 + 3 * c.index.val) ?_ ?_⟩ <;> cases c <;> rfl

/-- The slots of the transit list, at their offsets. -/
theorem transitAt_lineFields (s : State) (n : Fin 3) :
    byteOf (fieldBytes s.lineFields) (47 + n) = (s.transit[n.val]?.map fun e => e.slot.val).getD 255 := by
  refine (slotAt_lineFields (x := s.transit[n.val]?.map fun e => e.slot) (39 + n.val) ?_ ?_).trans ?_
  · fin_cases n <;> rfl
  · fin_cases n <;> rfl
  · rw [Option.map_map]; rfl

theorem readLineEffect_eq (s : State) : readLineEffect s = (s, ⟨.ok, fieldBytes s.lineFields⟩) := by
  rw [readLineEffect, lineBytes_eq]

/-- Settles O29, number by number. -/
theorem readLineShowsTheLine : Obligations.ReadLineShowsTheLine := by
  intro s p hg
  have at_ := @numberAt_lineFields s
  have byte := @byteOf_lineFields s
  have slot := @slotAt_lineFields s
  refine ⟨fieldBytes s.lineFields, ?reply, ?length, (byte 0 rfl rfl).trans ?frame, slot 1 rfl rfl, slot 2 rfl rfl,
    (byte 3 rfl rfl).trans ?lanes, bankAt_lineFields s, fun c => ?channels, byte 34 rfl rfl, slot 35 rfl rfl,
    byte 36 rfl rfl, slot 37 rfl rfl, byte 38 rfl rfl, transitAt_lineFields s, byte 42 rfl rfl, slot 43 rfl rfl,
    byte 44 rfl rfl, slot 45 rfl rfl, drawerAt_lineFields s, (byte 58 rfl rfl).trans ?finisher, slot 59 rfl rfl,
    (byte 60 rfl rfl).trans ?run, (byte 61 rfl rfl).trans ?solvent, (byte 62 rfl rfl).trans ?gate, at_ 63 rfl rfl rfl,
    ?loading⟩
  case reply => rw [exec_readLine p hg, readLineEffect_eq]; rfl
  case length => rw [fieldBytes_length, lineFields_widths]; rfl
  case frame => cases s.frame.state <;> rfl
  case lanes =>
    cases s.frame.laneA.failure <;> cases s.frame.laneA.short <;> cases s.frame.laneB.failure <;>
      cases s.frame.laneB.short <;> rfl
  case channels =>
    obtain ⟨hstate, hresult, hslot⟩ := channelAt_lineFields s c
    refine ⟨hstate, hresult.trans ?_, hslot⟩
    unfold Channel.shownResult
    cases (s.chan c).state <;> rcases (s.chan c).result with _ | _ | _ | _ <;> rfl
  case finisher => cases s.finisher.state <;> rfl
  case run => cases s.finisher.failure <;> cases s.finisher.short <;> rfl
  case solvent => cases s.solvent.mass <;> cases s.solvent.warn <;> rfl
  case gate => cases s.solvent.gate <;> rfl
  case loading => rw [← s.shownLoading_eq]; exact at_ 64 rfl rfl rfl

end Sys2Proof.Machine
end

section
/-! The frames of the commands (R175, R176, 11.7.1): what is written is what is read. -/

namespace Sys2Proof.Machine

/-! ### Words and parameter strings -/

theorem wordOf_wordBytes (w : Word) : wordOf (w.extractLsb' 8 8) (w.setWidth 8) = w := by
  rw [wordOf, BitVec.setWidth_eq_extractLsb' (by decide)]
  exact BitVec.extractLsb'_append_extractLsb'

theorem wordBytes_wordOf (hi lo : Byte) : wordBytes (wordOf hi lo) = [hi, lo] := by
  rw [wordBytes, wordOf, BitVec.extractLsb'_append_eq_left, BitVec.setWidth_append_eq_right]

/-- The two bytes of a field are the two bytes at its offset. -/
theorem wordBytes_wordAt (bs : List Byte) (n : Nat) : wordBytes (wordAt bs n) = [byteAt bs n, byteAt bs (n + 1)] :=
  wordBytes_wordOf ..

theorem byteAt_cons_zero (b : Byte) (bs : List Byte) : byteAt (b :: bs) 0 = b := rfl

theorem byteAt_cons_succ (b : Byte) (bs : List Byte) (n : Nat) : byteAt (b :: bs) (n + 1) = byteAt bs n := rfl

theorem wordAt_cons_succ (b : Byte) (bs : List Byte) (n : Nat) : wordAt (b :: bs) (n + 1) = wordAt bs n := rfl

theorem byteAt_wordBytes_add (w : Word) (bs : List Byte) (n : Nat) : byteAt (wordBytes w ++ bs) (n + 2) = byteAt bs n :=
  rfl

theorem wordAt_wordBytes_zero (w : Word) (bs : List Byte) : wordAt (wordBytes w ++ bs) 0 = w := wordOf_wordBytes w

theorem wordAt_wordBytes_add (w : Word) (bs : List Byte) (n : Nat) : wordAt (wordBytes w ++ bs) (n + 2) = wordAt bs n :=
  rfl

theorem wordAt_wordBytes (w : Word) : wordAt (wordBytes w) 0 = w := wordOf_wordBytes w

/-- A string is its bytes, offset by offset. -/
theorem map_byteAt {bs : List Byte} {n : Nat} (h : bs.length = n) : (List.range n).map (byteAt bs) = bs := by
  refine List.ext_getElem (by simp [h]) fun k _ hk => ?_
  simp [byteAt, hk]

theorem byteAt_drop (bs : List Byte) (k n : Nat) : byteAt (bs.drop k) n = byteAt bs (k + n) := by
  simp [byteAt]

theorem typeOfBytes_typeBytes (t : TypeImage) : typeOfBytes (typeBytes t) = t := by
  unfold typeBytes
  simp only [pointBytes, List.append_assoc, List.cons_append, List.nil_append]
  simp only [typeOfBytes, pointAt, byteAt_cons_zero, byteAt_cons_succ, wordAt_cons_succ, byteAt_wordBytes_add,
    wordAt_wordBytes_zero, wordAt_wordBytes_add, wordAt_wordBytes, Nat.reduceAdd]

theorem typeBytes_typeOfBytes (bs : List Byte) : typeBytes (typeOfBytes bs) = (List.range 49).map (byteAt bs) := by
  unfold typeBytes
  simp only [typeOfBytes, pointBytes, pointAt, wordBytes_wordAt, List.cons_append, List.nil_append, Nat.reduceAdd]
  rfl

theorem lotOfBytes_lotBytes (l : LotImage) : lotOfBytes (lotBytes l) = l := by
  simp only [lotBytes, List.append_assoc, List.cons_append, List.nil_append]
  simp only [lotOfBytes, byteAt_cons_zero, byteAt_cons_succ, wordAt_cons_succ, byteAt_wordBytes_add,
    wordAt_wordBytes_zero, wordAt_wordBytes_add]

theorem lotBytes_lotOfBytes (bs : List Byte) : lotBytes (lotOfBytes bs) = (List.range 13).map (byteAt bs) := by
  simp only [lotBytes, lotOfBytes, wordBytes_wordAt, List.cons_append, List.nil_append, Nat.reduceAdd]
  rfl

/-! ### Reading a frame (R175, R176) -/

/-- A frame is read where its code names a command that the port accepts and it has the command's length. -/
theorem decodeFrame_eq_some_iff (p : Port) (bytes : List Byte) (c : Instr) : decodeFrame p bytes = some c ↔
    ∃ code ps row, bytes = code :: ps ∧ commandRow code = some row ∧ accepted p row = true ∧ ps.length = row.params
      ∧ commandOf p code ps = some c := by
  cases bytes with
  | nil => simp [decodeFrame]
  | cons code ps =>
    cases hrow : commandRow code <;> simp [decodeFrame, hrow, and_assoc]

/-! ### Every frame reads back (R175, R176, 11.7.1) -/

theorem length_typeBytes (t : TypeImage) : (typeBytes t).length = 49 := by
  have h := congrArg List.length (typeBytes_typeOfBytes (typeBytes t))
  rw [typeOfBytes_typeBytes] at h
  simpa using h

/-- A frame is read as its command where the table's row of its code gives the port and the length. -/
theorem decodeFrame_of_row {p : Port} {code : Byte} {ps : List Byte} {c : Instr} {n : Nat} (hlen : ps.length = n)
    (hrow : (commandRow code).any (fun row => accepted p row && row.params == n) = true)
    (hc : commandOf p code ps = some c) : decodeFrame p (code :: ps) = some c := by
  obtain ⟨row, hrow, h⟩ := (Option.any_eq_true ..).mp hrow
  obtain ⟨hacc, hparams⟩ := Bool.and_eq_true_iff.mp h
  exact (decodeFrame_eq_some_iff ..).mpr ⟨code, ps, row, rfl, hrow, hacc, hlen.trans (beq_iff_eq.mp hparams).symm, hc⟩

/-- Settles O3, command by command: the row of the code admits the frame, and the operands stand at their offsets. -/
theorem everyFrameReadsBack : Obligations.EveryFrameReadsBack := by
  intro c p hwf hp hwaits hunknown hwrong
  cases c
  case arbiterWait q code params => exact absurd rfl (hwaits q code params)
  case unknownCommand q code => exact absurd rfl (hunknown q code)
  case wrongPortCommand q code params => exact absurd rfl (hwrong q code params)
  all_goals cases hp
  case writeType ix image =>
    exact decodeFrame_of_row (congrArg Nat.succ (length_typeBytes image)) rfl
      (congrArg (some ∘ Instr.writeType ix) (typeOfBytes_typeBytes image))
  case stageLot lot => exact decodeFrame_of_row rfl rfl (congrArg (some ∘ Instr.stageLot) (lotOfBytes_lotBytes lot))
  case setConfig item value =>
    exact decodeFrame_of_row rfl rfl (congrArg (some ∘ Instr.setConfig item) (wordOf_wordBytes value))
  case setLoading loading =>
    exact decodeFrame_of_row rfl rfl (congrArg (some ∘ Instr.setLoading) (wordOf_wordBytes loading))
  case replenish litres =>
    exact decodeFrame_of_row rfl rfl (congrArg (some ∘ Instr.replenish) (wordOf_wordBytes litres))
  case readStatus | evtFreeze | evtTake | evtDone | portReset | readPlate | readLine =>
    cases p <;> exact decodeFrame_of_row rfl rfl rfl
  case bankOn | bankOff =>
    cases p
    case E | D => exact decodeFrame_of_row rfl rfl rfl
    case P | W => cases hwf
  all_goals exact decodeFrame_of_row rfl rfl rfl

/-! ### Every reading is its frame (R175, R176, 11.7.1) -/

/-- A string of bytes, its first and the rest. -/
theorem map_byteAt_succ (bs : List Byte) (n : Nat) :
    (List.range (n + 1)).map (byteAt bs) = byteAt bs 0 :: (List.range n).map (byteAt (bs.drop 1)) := by
  have hshift : byteAt bs ∘ Nat.succ = byteAt (bs.drop 1) := funext fun k => by
    rw [byteAt_drop, Nat.add_comm]; rfl
  rw [List.range_succ_eq_map, List.map_cons, List.map_map, hshift]

section
variable {p : Port} {code : Byte} {ps : List Byte} {row : CommandRow} {c : Instr}

/-- A command is its frame on a port when the table's row of its code gives that port, and its operands are the bytes of
the frame, offset by offset. -/
theorem isFrame_of_row {n k : Nat} {ports : List Port} (hrow : commandRow code = some row) (hacc : accepted p row = true)
    (hlen : ps.length = row.params) (hcode : code.toNat = n)
    (htable : (commandRow (BitVec.ofNat 8 n)).map (fun r => (r.ports, r.params)) = some (ports, k))
    (hport : p ∈ ports → c.wellFormed = true ∧ commandPort c = some p)
    (hbytes : frameBytes c = BitVec.ofNat 8 n :: (List.range k).map (byteAt ps)) :
    c.wellFormed = true ∧ commandPort c = some p ∧ frameBytes c = code :: ps := by
  obtain rfl : BitVec.ofNat 8 n = code := by rw [← hcode, BitVec.ofNat_toNat, BitVec.setWidth_eq]
  rw [hrow] at htable
  obtain ⟨rfl, rfl⟩ := Prod.mk.inj (Option.some.inj htable)
  obtain ⟨hwf, hp⟩ := hport (by simpa [accepted] using hacc)
  exact ⟨hwf, hp, by rw [hbytes, map_byteAt hlen]⟩

/-- What a code and its parameters name is a command with this frame, on a port that accepts it. -/
theorem isFrame_of_commandOf (hrow : commandRow code = some row) (hacc : accepted p row = true)
    (hlen : ps.length = row.params) (h : commandOf p code ps = some c) :
    c.wellFormed = true ∧ commandPort c = some p ∧ frameBytes c = code :: ps := by
  have only {d : Instr} {q : Port} (hwf : d.wellFormed = true) (hq : commandPort d = some q) :
      p ∈ [q] → d.wellFormed = true ∧ commandPort d = some p := fun hp =>
    ⟨hwf, hq.trans (by rw [List.mem_singleton.mp hp])⟩
  have bank : p ∈ [Port.E, .D] → bankPortOk p = true := by cases p <;> decide
  unfold commandOf at h
  split at h
  all_goals cases h
  case h_1 e | h_2 e | h_3 e | h_4 e | h_5 e | h_6 e | h_7 e =>
    exact isFrame_of_row hrow hacc hlen e rfl (fun _ => ⟨rfl, rfl⟩) rfl
  -- The readings stand in the order of 11.7.1: WRITE_TYPE, STAGE_LOT, the commands with a word, the bank commands.
  case h_8 e =>
    refine isFrame_of_row hrow hacc hlen e rfl (only rfl rfl) ?_
    rw [map_byteAt_succ, ← typeBytes_typeOfBytes]; rfl
  case h_10 e =>
    refine isFrame_of_row hrow hacc hlen e rfl (only rfl rfl) ?_
    rw [← lotBytes_lotOfBytes]; rfl
  case h_15 e | h_17 e | h_28 e =>
    refine isFrame_of_row hrow hacc hlen e rfl (only rfl rfl) ?_
    rw [frameBytes, wordBytes_wordAt]; rfl
  case h_19 e | h_20 e => exact isFrame_of_row hrow hacc hlen e rfl (fun hp => ⟨bank hp, rfl⟩) rfl
  all_goals
    rename_i e
    exact isFrame_of_row hrow hacc hlen e rfl (only rfl rfl) rfl

end

/-- Settles O4: the reading of a frame is that of its code and parameters. -/
theorem everyReadingIsItsFrame : Obligations.EveryReadingIsItsFrame := by
  intro p bytes c h
  obtain ⟨code, ps, row, rfl, hrow, hacc, hlen, hc⟩ := (decodeFrame_eq_some_iff p bytes c).mp h
  exact isFrame_of_commandOf hrow hacc hlen hc

end Sys2Proof.Machine
end

section
/-! The replies of the commands (R177, 11.7.1): one result, and the table's amount of data behind OK and CLAMPED. -/

namespace Sys2Proof.Machine

/-! ### Replies of the table's length -/

/-- A reply as 11.7.1 has it, of a command with n bytes of reply data: the data behind OK and CLAMPED, and none behind any
other result (R177). -/
def Reply.Fits (r : Reply) (n : Nat) : Prop :=
  (r.result.accepts ∧ r.data.length = n) ∨ (¬ r.result.accepts ∧ r.data = [])

theorem Result.code_ne (r : Result) : r.code ≠ 0xFF := by cases r <;> decide

theorem Result.accepts_iff_code (r : Result) : r.accepts ↔ r.code = 0x00 ∨ r.code = 0x01 := by
  unfold Result.accepts
  cases r <;> decide

/-- The data of a reply that fits, as its result byte tells. -/
theorem Reply.Fits.length_eq {r : Reply} {n : Nat} (h : r.Fits n) :
    r.data.length = if r.result.code = 0x00 ∨ r.result.code = 0x01 then n else 0 := by
  rcases h with ⟨hr, hd⟩ | ⟨hr, hd⟩
  · rw [if_pos (r.result.accepts_iff_code.mp hr), hd]
  · rw [if_neg (mt r.result.accepts_iff_code.mpr hr), hd]; rfl

theorem Reply.Fits.refusal {r : Result} {n : Nat} (h : (r.code == 0x00 || r.code == 0x01) = false) :
    (Reply.just r).Fits n := by
  refine .inr ⟨fun hr => ?_, rfl⟩
  rcases r.accepts_iff_code.mp hr with hr | hr <;> simp [hr] at h

theorem Reply.Fits.ok {data : List Byte} {n : Nat} (h : data.length = n) : (⟨.ok, data⟩ : Reply).Fits n :=
  .inl ⟨.inl rfl, h⟩

theorem Reply.Fits.clamped {b : Bool} {data : List Byte} {n : Nat} (h : data.length = n) :
    (⟨okOrClamped b, data⟩ : Reply).Fits n := .inl ⟨okOrClamped_accepts b, h⟩

/-- Whichever way a check goes, the reply fits. -/
theorem fits_ite {α : Type} {c : Prop} [Decidable c] {a b : α × Reply} {n : Nat} (ha : a.2.Fits n) (hb : b.2.Fits n) :
    (if c then a else b).2.Fits n := by
  split
  · exact ha
  · exact hb

/-- A command that a check may refuse. -/
theorem fits_check {c : Prop} [Decidable c] {r : Result} {s : State} {b : State × Reply} {n : Nat}
    (hr : (r.code == 0x00 || r.code == 0x01) = false) (hb : b.2.Fits n) : (if c then refuse r s else b).2.Fits n :=
  fits_ite (.refusal hr) hb

/-! ### What each effect answers, check by check -/

section
variable {s : State} {n : Nat}

theorem viaSlot_fits {act : State → Slot → State × Reply} (h : ∀ i, (act s i).2.Fits n) (b : Byte) :
    (viaSlot b act s).2.Fits n := by
  unfold viaSlot
  split
  · exact h _
  · exact .refusal rfl

theorem viaDrawer_fits {act : State → DrawerIx → State × Reply} (h : ∀ d, (act s d).2.Fits n) (b : Byte) :
    (viaDrawer b act s).2.Fits n := by
  unfold viaDrawer
  split
  · exact h _
  · exact .refusal rfl

theorem viaBank_fits (p : Port) (code : Byte) (act : State → Bank → State) : (viaBank p code act s).2.Fits 0 := by
  unfold viaBank
  split
  · exact .refusal rfl
  · exact fits_check rfl (.ok rfl)

theorem holdPlate_fits (i : Slot) : (holdPlate s i).2.Fits 0 := by
  unfold holdPlate
  split
  · exact .ok rfl
  · exact fits_ite (.ok rfl) (.refusal rfl)

theorem releasePlate_fits (i : Slot) : (releasePlate s i).2.Fits 0 := by
  unfold releasePlate
  split
  · exact .ok rfl
  · exact fits_ite (.ok rfl) (.refusal rfl)

theorem scrapPlate_fits (i : Slot) : (scrapPlate s i).2.Fits 0 := fits_ite (.ok rfl) (fits_check rfl (.refusal rfl))

theorem purgePlate_fits (i : Slot) : (purgePlate s i).2.Fits 0 := fits_ite (fits_check rfl (.ok rfl)) (.refusal rfl)

theorem readPlateEffect_fits (i : Slot) : (readPlateEffect s i).2.Fits 70 :=
  .ok (by rw [plateBytes_eq, fieldBytes_length, plateFields_widths]; rfl)

theorem readLineEffect_fits : (readLineEffect s).2.Fits 83 :=
  .ok (by rw [lineBytes_eq, fieldBytes_length, lineFields_widths]; rfl)

theorem writeTypeEffect_fits (ix : Byte) (image : TypeImage) : (writeTypeEffect ix image s).2.Fits 0 := by
  unfold writeTypeEffect
  split
  · exact .refusal rfl
  · exact fits_check rfl (fits_check rfl (fits_ite (.ok rfl) (fits_check rfl (fits_check rfl (.clamped rfl)))))

theorem readTypeEffect_fits (ix : Byte) : (readTypeEffect ix s).2.Fits 49 := by
  unfold readTypeEffect
  split
  · exact .refusal rfl
  · exact .ok (by rw [typeBytes_eq, fieldBytes_length, typeFields_widths]; rfl)

theorem stageLotEffect_fits (lot : LotImage) : (stageLotEffect lot s).2.Fits 2 := by
  unfold stageLotEffect
  refine fits_check rfl (fits_check rfl ?_)
  split
  · exact .refusal rfl
  · exact fits_check rfl (fits_check rfl (fits_check rfl (fits_check rfl (.clamped rfl))))

theorem setConfigEffect_fits (code : Byte) (value : Word) : (setConfigEffect code value s).2.Fits 2 := by
  unfold setConfigEffect
  split
  · exact .refusal rfl
  · exact .clamped rfl

theorem readConfigEffect_fits (code : Byte) : (readConfigEffect code s).2.Fits 2 := by
  unfold readConfigEffect
  split
  · exact .refusal rfl
  · exact .ok rfl

theorem load_fits (head : Slot) (behind : List Slot) (pair : Bool) : (s.load head behind pair).2.Fits 3 := by
  unfold State.load
  refine fits_ite (.ok rfl) ?_
  split
  · exact .ok rfl
  · exact .ok rfl

theorem loadReqEffect_fits (mode : Byte) : (loadReqEffect mode s).2.Fits 3 := by
  unfold loadReqEffect
  refine fits_check rfl (fits_check rfl ?_)
  split
  · exact .refusal rfl
  · exact fits_check rfl (load_fits ..)

theorem startBackEffect_fits : (startBackEffect s).2.Fits 0 := fits_check rfl (fits_check rfl (.ok rfl))

theorem startFaceEffect_fits : (startFaceEffect s).2.Fits 0 := fits_check rfl (fits_check rfl (.ok rfl))

theorem unloadEffect_fits : (unloadEffect s).2.Fits 2 := fits_check rfl (.ok rfl)

theorem frameAbortEffect_fits : (frameAbortEffect s).2.Fits 0 := by
  unfold frameAbortEffect
  split
  case h_5 | h_6 => exact .refusal rfl
  all_goals exact .ok rfl

theorem claim_fits (i : Slot) : (s.claim i).2.Fits 3 := .clamped rfl

theorem washClaimEffect_fits (code : Byte) : (washClaimEffect code s).2.Fits 3 := by
  unfold washClaimEffect
  refine fits_check rfl (fits_check rfl (fits_check rfl (fits_check rfl ?_)))
  split
  · exact .refusal rfl
  · split
    · exact .refusal rfl
    · exact claim_fits _
  · exact fits_check rfl (claim_fits _)

theorem washDonePlate_fits (i : Slot) : (washDonePlate s i).2.Fits 1 := fits_check rfl (fits_check rfl (.ok rfl))

theorem washFaultPlate_fits (i : Slot) : (washFaultPlate s i).2.Fits 0 := fits_check rfl (.ok rfl)

theorem replenishEffect_fits (litres : Word) : (replenishEffect litres s).2.Fits 4 := by
  unfold replenishEffect
  split
  · exact .refusal rfl
  · exact .clamped rfl

theorem loadDrawer_fits (d : DrawerIx) (i : Slot) : (s.loadDrawer d i).2.Fits 3 := .ok rfl

theorem drawerLoadAt_fits (code : Byte) (d : DrawerIx) : (drawerLoadAt code s d).2.Fits 3 := by
  unfold drawerLoadAt
  split
  · exact .refusal rfl
  · refine fits_check rfl ?_
    split
    · exact .refusal rfl
    · exact loadDrawer_fits ..
  · exact fits_check rfl (fits_check rfl (loadDrawer_fits ..))

theorem drawerOpenAt_fits (d : DrawerIx) : (drawerOpenAt s d).2.Fits 0 := by
  unfold drawerOpenAt
  split
  case h_4 => exact .refusal rfl
  all_goals exact .ok rfl

theorem drawerCloseAt_fits (d : DrawerIx) : (drawerCloseAt s d).2.Fits 0 := by
  unfold drawerCloseAt
  split <;> exact .ok rfl

theorem drawerUnloadAt_fits (d : DrawerIx) : (drawerUnloadAt s d).2.Fits 2 := by
  unfold drawerUnloadAt
  split
  · exact .refusal rfl
  · exact .refusal rfl
  · exact .ok rfl

theorem loadFinisher_fits (i : Slot) : (s.loadFinisher i).2.Fits 2 := .ok rfl

theorem finishLoadEffect_fits (code : Byte) : (finishLoadEffect code s).2.Fits 2 := by
  unfold finishLoadEffect
  split
  · exact .refusal rfl
  · refine fits_check rfl ?_
    split
    · exact .refusal rfl
    · exact loadFinisher_fits _
  · exact fits_check rfl (fits_check rfl (loadFinisher_fits _))

theorem finishStartEffect_fits : (finishStartEffect s).2.Fits 0 := fits_check rfl (fits_check rfl (.ok rfl))

theorem finishUnloadEffect_fits : (finishUnloadEffect s).2.Fits 1 := by
  unfold finishUnloadEffect
  refine fits_check rfl ?_
  split <;> exact .ok rfl

theorem finishAbortEffect_fits : (finishAbortEffect s).2.Fits 0 := by
  unfold finishAbortEffect
  split
  · exact .ok rfl
  · exact .ok rfl
  · exact .refusal rfl

end

/-- A command that waits at the arbiter answers the amount of data that the table gives its code. -/
theorem effectOf_fits {c : Instr} {f : State → State × Reply} {code : Byte} {params : List Byte} {row : CommandRow}
    (h : effectOf c = some f) (hbytes : frameBytes c = code :: params) (hrow : commandRow code = some row) (s : State) :
    (f s).2.Fits row.replyData := by
  have table {n : Nat} (hn : (commandRow code).map (fun r => r.replyData) = some n) (hf : (f s).2.Fits n) :
      (f s).2.Fits row.replyData := by
    rw [hrow] at hn
    obtain rfl : row.replyData = n := Option.some.inj hn
    exact hf
  cases c <;> cases h <;> obtain ⟨rfl, -⟩ := List.cons.inj hbytes
  case readPlate => exact table rfl (viaSlot_fits readPlateEffect_fits _)
  case readLine => exact table rfl readLineEffect_fits
  case writeType => exact table rfl (writeTypeEffect_fits ..)
  case readType => exact table rfl (readTypeEffect_fits _)
  case stageLot => exact table rfl (stageLotEffect_fits _)
  case hold => exact table rfl (viaSlot_fits holdPlate_fits _)
  case release => exact table rfl (viaSlot_fits releasePlate_fits _)
  case scrap => exact table rfl (viaSlot_fits scrapPlate_fits _)
  case purge => exact table rfl (viaSlot_fits purgePlate_fits _)
  case setConfig => exact table rfl (setConfigEffect_fits ..)
  case readConfig => exact table rfl (readConfigEffect_fits _)
  case setLoading | solventChange => exact table rfl (.ok rfl)
  case loadReq => exact table rfl (loadReqEffect_fits _)
  case bankOn | bankOff => exact table rfl (viaBank_fits ..)
  case startBack => exact table rfl startBackEffect_fits
  case startFace => exact table rfl startFaceEffect_fits
  case unload => exact table rfl unloadEffect_fits
  case frameAbort => exact table rfl frameAbortEffect_fits
  case washClaim => exact table rfl (washClaimEffect_fits _)
  case washDone => exact table rfl (viaSlot_fits washDonePlate_fits _)
  case washFault => exact table rfl (viaSlot_fits washFaultPlate_fits _)
  case replenish => exact table rfl (replenishEffect_fits _)
  case drawerLoad => exact table rfl (viaDrawer_fits (drawerLoadAt_fits _) _)
  case drawerOpen => exact table rfl (viaDrawer_fits drawerOpenAt_fits _)
  case drawerClose => exact table rfl (viaDrawer_fits drawerCloseAt_fits _)
  case drawerUnload => exact table rfl (viaDrawer_fits drawerUnloadAt_fits _)
  case finishLoad => exact table rfl (finishLoadEffect_fits _)
  case finishStart => exact table rfl finishStartEffect_fits
  case finishAbort => exact table rfl finishAbortEffect_fits
  case finishUnload => exact table rfl finishUnloadEffect_fits

/-! ### The exempt commands (R169 to R171, R181, R183) -/

theorem PortRec.readStatus_fits (q : PortRec) : q.readStatus.2.Fits 6 := .ok rfl

theorem Attention.freeze_fits (a : Attention) : a.freeze.2.Fits 3 := by
  unfold Attention.freeze
  split
  · exact .ok rfl
  · split
    · exact fits_ite (.ok rfl) (.refusal rfl)
    · exact .refusal rfl

theorem Attention.take_fits (a : Attention) : a.take.2.Fits 3 := by
  unfold Attention.take
  split
  · exact .ok rfl
  · exact .refusal rfl

theorem Attention.done_fits (a : Attention) : a.done.2.Fits 1 := by
  unfold Attention.done
  split
  · exact .ok rfl
  · exact .refusal rfl

theorem PortRec.resetPort_fits (q : PortRec) : q.resetPort.2.Fits 0 := .ok rfl

/-- The effect of an exempt command on its port's record. -/
def exemptOf : Instr → Option (PortRec → PortRec × Reply)
  | .readStatus _ => some PortRec.readStatus
  | .evtFreeze _ => some fun q => q.viaAttention Attention.freeze
  | .evtTake _ => some fun q => q.viaAttention Attention.take
  | .evtDone _ => some fun q => q.viaAttention Attention.done
  | .portReset _ => some PortRec.resetPort
  | _ => none

section
variable {c : Instr} {f : PortRec → PortRec × Reply} {code : Byte} {params : List Byte} {row : CommandRow} {p : Port}

/-- The row of an exempt command is the last byte of its frame, and the command acts at once. -/
theorem exec_of_exemptOf (h : exemptOf c = some f) (hp : commandPort c = some p) (s : State) :
    exec c s = .next (lastByte p (frameBytes c) (fun q => q.actAtOnce f) s) := by
  cases c <;> cases h <;> cases hp <;> rfl

/-- An exempt command answers the amount of data that the table gives its code. -/
theorem exemptOf_fits (h : exemptOf c = some f) (hbytes : frameBytes c = code :: params)
    (hrow : commandRow code = some row) (q : PortRec) : (f q).2.Fits row.replyData := by
  cases c <;> cases h <;> cases hbytes <;> cases hrow
  case readStatus => exact q.readStatus_fits
  case evtFreeze => exact q.attn.freeze_fits
  case evtTake => exact q.attn.take_fits
  case evtDone => exact q.attn.done_fits
  case portReset => exact q.resetPort_fits

/-- The codes of the exempt commands (R18, 11.7.1). -/
theorem code_of_exempt (hrow : commandRow code = some row) (ha : row.arbiter = false) :
    code = 0x01 ∨ code = 0x02 ∨ code = 0x03 ∨ code = 0x04 ∨ code = 0x05 := by
  have table : ∀ r ∈ commandTable, r.arbiter = false →
      r.code = 0x01 ∨ r.code = 0x02 ∨ r.code = 0x03 ∨ r.code = 0x04 ∨ r.code = 0x05 := by decide
  obtain rfl : row.code = code := by simpa using List.find?_some hrow
  exact table row (List.mem_of_find?_eq_some hrow) ha

/-- A frame that reads as an exempt command reads as one that acts at once. -/
theorem exemptOf_of_decodeFrame (h : decodeFrame p (code :: params) = some c) (hrow : commandRow code = some row)
    (ha : row.arbiter = false) : ∃ f, exemptOf c = some f := by
  obtain ⟨_, _, _, hcons, -, -, -, hc⟩ := (decodeFrame_eq_some_iff ..).mp h
  obtain ⟨rfl, rfl⟩ := List.cons.inj hcons
  rcases code_of_exempt hrow ha with rfl | rfl | rfl | rfl | rfl <;> cases hc <;> exact ⟨_, rfl⟩

end

/-- Settles O23: a granted command answers its effect's reply, and an exempt one its own. -/
theorem replyHasTheTablesLength : Obligations.ReplyHasTheTablesLength := by
  intro c s p code params row hp hbytes hdec hrow hdue
  cases ha : row.arbiter with
  | true =>
    rw [ha, if_pos rfl] at hdue
    obtain ⟨f, hf⟩ := effectOf_of_decodeFrame hdec hrow ha
    refine ⟨_, (f s).2.result.code, (f s).2.data, exec_of_granted hf hp hdue, ?_, Result.code_ne _,
      (effectOf_fits hf hbytes hrow s).length_eq⟩
    simp [State.granted, State.replied, State.port]
  | false =>
    rw [ha, if_neg Bool.false_ne_true] at hdue
    obtain ⟨f, hf⟩ := exemptOf_of_decodeFrame hdec hrow ha
    have he := (exec_of_exemptOf hf hp s).trans (congrArg Host.Outcome.next (lastByte_of_due hp hdue _))
    refine ⟨_, _, _, he, congrArg PortRec.frame (State.port_modPort_self ..), Result.code_ne _,
      (exemptOf_fits hf hbytes hrow _).length_eq⟩

end Sys2Proof.Machine
end

section
/-! The last byte of a frame (R176, R177, R179, 11.7.1): a row that names the completed frame is that byte's arrival. -/

namespace Sys2Proof.Machine

/-! ### A complete frame, by its code, its port and its length -/

section
variable {p : Port} {code : Byte} {params : List Byte} {row : CommandRow}

theorem PortRec.acceptBytes_of_unknown (h : commandRow code = none) (q : PortRec) :
    q.acceptBytes p (code :: params) = q.answer (Reply.just .unknownCommand) false := by
  simp only [PortRec.acceptBytes, h]

variable (hrow : commandRow code = some row) (hlen : params.length = row.params)
include hrow hlen

theorem PortRec.acceptBytes_of_wrongPort (h : accepted p row = false) (q : PortRec) :
    q.acceptBytes p (code :: params) = q.answer (Reply.just .wrongPort) false := by
  simp [PortRec.acceptBytes, hrow, hlen, h]

theorem PortRec.acceptBytes_of_arbiter (h : accepted p row = true) (ha : row.arbiter = true) (q : PortRec) :
    q.acceptBytes p (code :: params) = { q with frame := .waiting (code :: params) } := by
  simp [PortRec.acceptBytes, hrow, hlen, h, ha]

theorem PortRec.acceptBytes_of_exempt (h : accepted p row = true) (ha : row.arbiter = false) (q : PortRec) :
    q.acceptBytes p (code :: params) = q.actAtOnce (exemptEffect code) := by
  simp [PortRec.acceptBytes, hrow, hlen, h, ha]

theorem arbiterFrameOk_of_row (h : accepted p row = true) (ha : row.arbiter = true) :
    arbiterFrameOk p code params = true := by
  simp [arbiterFrameOk, hrow, hlen, h, ha]

theorem wrongPortFrameOk_of_row (h : accepted p row = false) : wrongPortFrameOk p code params = true := by
  simp [wrongPortFrameOk, hrow, hlen, h]

end

/-- The effect of an exempt command is the one that its code selects. -/
theorem exemptEffect_of_exemptOf {c : Instr} {f : PortRec → PortRec × Reply} {code : Byte} {params : List Byte}
    (h : exemptOf c = some f) (hbytes : frameBytes c = code :: params) : exemptEffect code = f := by
  cases c <;> cases h <;> cases hbytes <;> rfl

/-! ### The byte that completes a frame -/

section
variable {s : State} {p : Port} {b code : Byte} {got params : List Byte} (hr : s.rstLow = false)
  (hs : (s.port p).selLow = true) (hf : (s.port p).frame = .receiving got) (hgot : got ++ [b] = code :: params)
include hr hs hf hgot

/-- A byte that a port takes is due as the last byte of the frame that it leaves. -/
theorem State.completes_of_receiving : s.completes p (code :: params) = true :=
  (s.completes_iff p _).mpr ⟨hr, hs, List.cons_ne_nil _ _, by rw [← hgot, List.dropLast_concat, hf]⟩

/-- The arrival of a byte is the last byte of the frame that it leaves, with what the port makes of that frame. -/
theorem exec_byteArrival_eq_lastByte {f : PortRec → PortRec}
    (h : ∀ q : PortRec, q.acceptBytes p (code :: params) = f q) :
    exec (.byteArrival p b) s = .next (lastByte p (code :: params) f s) := by
  have hlast : (code :: params).getLastD 0 = b := by rw [← hgot, List.getLastD_concat]
  rw [exec_byteArrival_of_frame hr hs (by simp [hf]),
    lastByte_of_completes f (s.completes_of_receiving hr hs hf hgot), hlast]
  refine congrArg Host.Outcome.next (State.modPort_congr ?_)
  rw [PortRec.shift_of_receiving hf, hgot, h]

end

/-- Settles O6: the byte's arrival is the last byte of the frame that it leaves, and so is each row that names the
frame. -/
theorem lastByteIsTheCommandsRow : Obligations.LastByteIsTheCommandsRow := by
  intro s p b code got params hr hs hf hgot
  have arrival {f : PortRec → PortRec} (h : ∀ q : PortRec, q.acceptBytes p (code :: params) = f q) :=
    exec_byteArrival_eq_lastByte hr hs hf hgot h
  refine ⟨fun hrow hnil => ?unknown, fun row hrow hlen =>
    ⟨fun hacc => ?wrongPort, fun hacc ha => ?waits, fun hacc ha c hdec => ?exempt⟩⟩
  case unknown =>
    subst hnil
    exact (arrival (PortRec.acceptBytes_of_unknown hrow)).trans
      (congrArg Host.Outcome.next (if_pos (by simp [hrow])).symm)
  case wrongPort =>
    exact (arrival (PortRec.acceptBytes_of_wrongPort hrow hlen hacc)).trans
      (congrArg Host.Outcome.next (if_pos (wrongPortFrameOk_of_row hrow hlen hacc)).symm)
  case waits =>
    exact (arrival (PortRec.acceptBytes_of_arbiter hrow hlen hacc ha)).trans
      (congrArg Host.Outcome.next (if_pos (arbiterFrameOk_of_row hrow hlen hacc ha)).symm)
  case exempt =>
    obtain ⟨f, hc⟩ := exemptOf_of_decodeFrame hdec hrow ha
    obtain ⟨-, hp, hbytes⟩ := everyReadingIsItsFrame p _ c hdec
    rw [exec_of_exemptOf hc hp, hbytes, ← exemptEffect_of_exemptOf hc hbytes]
    exact arrival (PortRec.acceptBytes_of_exempt hrow hlen hacc ha)

end Sys2Proof.Machine
end

section
/-! The queue of rows (log entries 9 and 19): no operation of the part reads or writes it. -/

namespace Sys2Proof.Machine

section
variable {s t : State}

/-! ### Lists, holds and the gate -/

@[simp] theorem State.leaveList_pending (s : State) (l : WaitList) (i : Slot) : (s.leaveList l i).pending = s.pending :=
  State.setWaitList_pending ..

@[simp] theorem State.fillList_pending (s : State) (l : WaitList) (q : List Slot) :
    (s.fillList l q).pending = s.pending := by
  rw [State.fillList, State.announce_pending, State.setWaitList_pending]

@[simp] theorem State.joinTail_pending (s : State) (l : WaitList) (i : Slot) : (s.joinTail l i).pending = s.pending :=
  s.fillList_pending ..

@[simp] theorem State.leaveOwnList_pending (s : State) (i : Slot) : (s.leaveOwnList i).pending = s.pending := by
  unfold State.leaveOwnList
  split
  · exact s.leaveList_pending ..
  · rfl

@[simp] theorem State.joinReleased_pending (s : State) (i : Slot) (dest : HeldFrom) :
    (s.joinReleased i dest).pending = s.pending := by
  cases dest
  case done => rfl
  all_goals exact s.fillList_pending ..

@[simp] theorem State.holdAtStep_pending (s : State) (i : Slot) (reason : HoldReason) (from_ : HeldFrom) (p : Port) :
    (s.holdAtStep i reason from_ p).pending = s.pending := rfl

theorem State.foldl_pending {α : Type} {f : State → α → State} (hf : ∀ u a, (f u a).pending = u.pending) (l : List α)
    (s : State) : (l.foldl f s).pending = s.pending := by
  induction l generalizing s with
  | nil => rfl
  | cons a l ih => exact (ih _).trans (hf s a)

@[simp] theorem State.tellSolvent_pending (s : State) (es : List Event) : (s.tellSolvent es).pending = s.pending :=
  State.foldl_pending (f := fun t e => (t.post .P e).post .W e) (fun _ _ => rfl) es s

@[simp] theorem State.evaluateGate_pending (s : State) : s.evaluateGate.pending = s.pending := by
  cases hm : s.solvent.mass with
  | none => rw [evaluateGate_of_unknown hm]
  | some m =>
    rw [evaluateGate_of_known hm rfl rfl rfl]
    exact State.tellSolvent_pending ..

@[simp] theorem State.storeItem_pending (s : State) (x : Item) (v : Nat) : (s.storeItem x v).pending = s.pending := by
  unfold State.storeItem State.itemChanged
  split
  · rfl
  · split
    · exact State.evaluateGate_pending _
    · rfl

/-! ### The light -/

theorem LightMove.pending {P : Slot → Prop} (h : LightMove P s t) : t.pending = s.pending :=
  (congrArg State.pending h.rest :)

@[simp] theorem State.abortRun_pending (s : State) (c : Chan) : (s.abortRun c).pending = s.pending :=
  (LightMove.abortRun (P := fun _ => True) fun _ _ _ => trivial).pending

/-! ### The moves of the plates -/

@[simp] theorem State.stage_pending (s : State) (mk : Nat → Plate) (slots : List Slot) :
    (s.stage mk slots).pending = s.pending := by
  obtain ⟨plates, h⟩ := fillCopies_eq mk 0 slots s
  rw [State.stage, State.fillList_pending, h]

@[simp] theorem State.bedLoaded_pending (s : State) (a b : Option Slot) : (s.bedLoaded a b).pending = s.pending := rfl

@[simp] theorem State.clearBed_pending (s : State) : s.clearBed.pending = s.pending := rfl

@[simp] theorem State.placeOnFrame_pending (s : State) (i : Slot) (lane : LanePlace) :
    (s.placeOnFrame i lane).pending = s.pending := s.leaveList_pending ..

@[simp] theorem State.settleLane_pending (s : State) (lane : Lane) : (s.settleLane lane).pending = s.pending := by
  unfold State.settleLane
  split
  · unfold State.settleUnloaded
    split
    · rfl
    split
    · rfl
    split
    · rfl
    · exact State.joinTail_pending ..
  · rfl

@[simp] theorem State.undoLane_pending (s : State) (ahead : Option Slot) (i : Slot) :
    (s.undoLane ahead i).pending = s.pending := by
  unfold State.undoLane
  split
  · rfl
  · exact State.fillList_pending ..

@[simp] theorem State.undoLoad_pending (s : State) : s.undoLoad.pending = s.pending := by
  unfold State.undoLoad
  split <;> simp

@[simp] theorem State.breakOffLoad_pending (s : State) : s.breakOffLoad.pending = s.pending := by
  rw [State.breakOffLoad, State.clearBed_pending, State.foldl_pending (f := State.holdAborted) fun _ _ => rfl,
    State.foldl_pending State.abortRun_pending]

@[simp] theorem State.book_pending (s : State) (i : Slot) : (s.book i).pending = s.pending := by
  unfold State.book
  split <;> rfl

@[simp] theorem State.endWash_pending (s : State) (i : Slot) : (s.endWash i).pending = s.pending := by
  unfold State.endWash
  split
  · rfl
  · exact State.joinTail_pending ..

@[simp] theorem State.overdueExpiry_pending (s : State) (i : Slot) : (s.overdueExpiry i).pending = s.pending := by
  unfold State.overdueExpiry
  split <;> rfl

@[simp] theorem State.unloadDrawer_pending (s : State) (d : DrawerIx) (i : Slot) :
    (s.unloadDrawer d i).pending = s.pending := by
  unfold State.unloadDrawer
  split <;> rfl

@[simp] theorem State.endDrying_pending (s : State) (i : Slot) : (s.endDrying i).pending = s.pending := by
  unfold State.endDrying
  split
  · rfl
  · exact State.joinTail_pending ..

@[simp] theorem State.dryExpiry_pending (s : State) (d : DrawerIx) : (s.dryExpiry d).pending = s.pending := by
  unfold State.dryExpiry
  split
  · split
    · exact State.endDrying_pending ..
    · rfl
  · rfl

@[simp] theorem State.clearReference_pending (s : State) (i : Slot) : (s.clearReference i).pending = s.pending := by
  unfold State.clearReference
  split <;> rfl

@[simp] theorem State.settleFinished_pending (s : State) (i : Slot) : (s.settleFinished i).pending = s.pending := by
  unfold State.settleFinished
  split
  · rfl
  split
  · rfl
  split <;> rfl

@[simp] theorem State.undoFinish_pending (s : State) (i : Slot) : (s.undoFinish i).pending = s.pending := by
  unfold State.undoFinish
  split
  · rfl
  · exact State.fillList_pending ..

@[simp] theorem State.breakOffFinish_pending (s : State) (i : Slot) : (s.breakOffFinish i).pending = s.pending :=
  (State.abortRun_pending ..).trans (State.abortRun_pending ..)

/-! ### The deeds -/

theorem StoreDeed.pending (h : StoreDeed s t) : t.pending = s.pending := by
  cases h with
  | storeItem x v => exact s.storeItem_pending ..
  | setMass m _ => exact State.evaluateGate_pending _
  | still | clearType | storeType | openDrawer | closeDrawer | drawerSecond | overdueSecond => rfl

theorem PlateDeed.pending (h : PlateDeed s t) : t.pending = s.pending := by
  cases h with
  | stage => exact s.stage_pending ..
  | pend | unpend | purge | clearFinisher => rfl
  | hold i | scrap i => exact s.leaveOwnList_pending i
  | release i => exact State.joinReleased_pending ..
  | loadWide i | loadOne i | loadPair i j | unload | washDone i | washFault i => simp
  | undoLoad => exact s.undoLoad_pending
  | breakOffLoad => exact s.breakOffLoad_pending
  | claim i => exact s.leaveList_pending .wash i
  | overdue i => exact s.overdueExpiry_pending i
  | loadDrawer d i => exact s.leaveList_pending .dryer i
  | unloadDrawer d i => exact s.unloadDrawer_pending d i
  | dryExpiry d => exact s.dryExpiry_pending d
  | loadFinisher i => exact (State.clearReference_pending ..).trans (s.leaveList_pending .finisher i)
  | unloadFinisher i => exact s.settleFinished_pending i
  | undoFinish i => exact s.undoFinish_pending i
  | breakOffFinish i => exact s.breakOffFinish_pending i

theorem Deed.pending (h : Deed s t) : t.pending = s.pending := by
  cases h with
  | store h => exact h.pending
  | plate h => exact h.pending
  | light h => exact h.lightMove.pending

/-! ### The rows -/

theorem grant_pending {p : Port} {bytes : List Byte} {f : State → State × Reply} (h : Answers s (f s)) :
    (grant p bytes f s).pending = s.pending := by
  rcases grant_cases p bytes f s with ⟨-, he⟩ | ⟨-, he⟩ <;> rw [he]
  exact h.deed.pending

theorem lastByte_pending (p : Port) (bytes : List Byte) (f : PortRec → PortRec) (s : State) :
    (lastByte p bytes f s).pending = s.pending := by
  unfold lastByte
  split <;> rfl

theorem whileUp_pending {f : State → State} (h : (f s).pending = s.pending) : (whileUp f s).pending = s.pending := by
  unfold whileUp
  split
  · rfl
  · exact h

@[simp] theorem State.shiftByte_pending (s : State) (p : Port) (b : Byte) : (s.shiftByte p b).pending = s.pending := by
  unfold State.shiftByte
  split
  · rfl
  · split <;> rfl

end

/-- Settles O2, row by row: a command that waits at the arbiter does a deed and answers, and every other row takes a
frame's last byte, is an event of the part, or moves a pin. -/
theorem everyRowCompletesAndKeepsTheQueue : Obligations.EveryRowCompletesAndKeepsTheQueue := by
  intro c s
  cases hc : effectOf c with
  | some f =>
    obtain ⟨p, -, he⟩ := exec_of_effectOf hc s
    exact ⟨_, he, grant_pending (effectOf_answers hc s)⟩
  | none =>
    cases c
    case powerOnReset | rstRise | selRise => exact ⟨_, rfl, rfl⟩
    case selFall =>
      refine ⟨_, rfl, ?_⟩
      split
      · rfl
      · split <;> rfl
    case arbiterWait | unknownCommand | wrongPortCommand =>
      refine ⟨_, rfl, ?_⟩
      split
      · exact lastByte_pending ..
      · rfl
    case readStatus | evtFreeze | evtTake | evtDone | portReset => exact ⟨_, rfl, lastByte_pending ..⟩
    case byteArrival p b => exact ⟨_, rfl, whileUp_pending (s.shiftByte_pending p b)⟩
    case warmTimerExpiry b => exact ⟨_, rfl, whileUp_pending (LightDeed.warmExpiry b).lightMove.pending⟩
    case dryTimerExpiry d => exact ⟨_, rfl, whileUp_pending (s.dryExpiry_pending d)⟩
    case overdueTimerExpiry i => exact ⟨_, rfl, whileUp_pending (s.overdueExpiry_pending i)⟩
    case sampleDue c => exact ⟨_, rfl, whileUp_pending (LightDeed.sampleDue c).lightMove.pending⟩
    case sensorReadStart => exact ⟨_, rfl, whileUp_pending rfl⟩
    case sensorReadComplete a => exact ⟨_, rfl, whileUp_pending (LightDeed.readComplete a).lightMove.pending⟩
    case timerDecrement timer => exact ⟨_, rfl, whileUp_pending (decrement_deed s timer).pending⟩
    all_goals cases hc

end Sys2Proof.Machine
end
